-- ==== Sys2Proof/Word.lean ====
section
/-! DEFINITION. The two word sizes of the hardware (spec/00_scope.md R4, R5): a register other than PC, a memory
cell and an operand are 8 bits (`DATA_BITS`); PC and an address are 16 bits (`ADDR_BITS`). Arithmetic on either
wraps, which is what `BitVec` arithmetic does. -/

namespace Sys2Proof

/-- An 8-bit value 0..255 (R5). -/
abbrev Byte := BitVec 8

/-- A 16-bit value 0..65535 (R5): PC or a memory address. -/
abbrev Word := BitVec 16

end Sys2Proof
end

