-- ==== Sys2Proof/Config.lean ====
section
/-! DEFINITION. The parameters of the hardware (spec/00_scope.md R4): those the source fixes are numerals, those it
leaves OPEN and that a step can produce are opaque free values. The parameter `MEM` has its functions here and its
data in State (log 1). -/

namespace Sys2Proof.Config

/-- `STACK_BASE`: the stack location of SP is this address plus SP (R4, R11). -/
def stackBase : Word := 0x0100

/-- `VEC_NMI`: address of the low byte of the NMI vector (R4, R36). -/
def vecNmi : Word := 0xFFFA

/-- `VEC_RESET`: address of the low byte of the RESET vector (R4, R36). -/
def vecReset : Word := 0xFFFC

/-- `VEC_IRQ`: address of the low byte of the IRQ/BRK vector (R4, R36). -/
def vecIrq : Word := 0xFFFE

/-! The values a reset sequence leaves in the registers the source does not name (R21: "unspecified"; R4: OPEN).
The argument counts the reset sequences run so far (`State.resetDraws`), so that two resets need not agree.
No body: nothing can be proved of a value (log 4). -/

/-- `RESET_A` of R4: A after the nth reset sequence. -/
opaque resetA : Nat → Byte
/-- `RESET_X` of R4. -/
opaque resetX : Nat → Byte
/-- `RESET_Y` of R4. -/
opaque resetY : Nat → Byte
/-- `RESET_SP` of R4. -/
opaque resetSp : Nat → Byte
/-- `RESET_N` of R4. -/
opaque resetN : Nat → Bool
/-- `RESET_V` of R4. -/
opaque resetV : Nat → Bool
/-- `RESET_B` of R4. -/
opaque resetB : Nat → Bool
/-- `RESET_D` of R4. -/
opaque resetD : Nat → Bool
/-- `RESET_Z` of R4. -/
opaque resetZ : Nat → Bool
/-- `RESET_C` of R4. -/
opaque resetC : Nat → Bool

/-! The devices among the memory collaborator's addresses: `MEM` of R4, OPEN, "a total read function and a total write
function, possibly stateful" (92_eei_decisions.md section 2). What the devices hold is a number (`State.devices`).
No body: nothing can be proved of an answer or of a change (log 1). -/

/-- What a device read of an address answers. -/
opaque deviceAnswer : Nat → Word → Byte
/-- What the devices hold after a read of an address: a read may have a side effect (20_memory.md R31). -/
opaque deviceAfterRead : Nat → Word → Nat
/-- What the devices hold after a write of a byte to an address. -/
opaque deviceAfterWrite : Nat → Word → Byte → Nat

end Sys2Proof.Config
end

