-- ==== Sys2Proof/Syntax.lean ====
section
/-! DEFINITION. The instructions (spec/30_encoding.md R50, R54): 56 mnemonics, 13 addressing modes, and one
constructor of `Instr` for each of the 151 pairs of the opcode table, carrying the operand field of its format. -/

namespace Sys2Proof

/-- The 56 mnemonics, in the order of R1. -/
inductive Mnemonic where
  | lda | ldx | ldy | sta | stx | sty | adc | sbc
  | and | ora | eor | bit | asl | lsr | rol | ror
  | inc | dec | inx | iny | dex | dey | cmp | cpx
  | cpy | bcc | bcs | beq | bne | bmi | bpl | bvc
  | bvs | jmp | jsr | rts | brk | rti | pha | php
  | pla | plp | tax | tay | txa | tya | tsx | txs
  | sec | sed | sei | clc | cld | cli | clv | nop
  deriving DecidableEq, Repr

/-- The 13 addressing modes under the short names of R50. -/
inductive Mode where
  | imp | acc | imm | zp | zpx | zpy | abs | abx | aby | ind | izx | izy | rel
  deriving DecidableEq, Repr

/-- Instruction length in bytes by mode: formats F1, F2, F3 of R50, R52. -/
def Mode.length : Mode → Nat
  | .imp | .acc => 1
  | .imm | .zp | .zpx | .zpy | .izx | .izy | .rel => 2
  | .abs | .abx | .aby | .ind => 3

/-- A mode that resolves to an effective address, with its operand field (R59 to R67). -/
inductive AddrMode where
  | zp (d8 : Byte)      -- address in page zero
  | zpx (d8 : Byte)     -- base in page zero, X added
  | zpy (d8 : Byte)     -- base in page zero, Y added
  | abs (addr : Word)   -- address
  | abx (addr : Word)   -- base, X added
  | aby (addr : Word)   -- base, Y added
  | ind (ptr : Word)    -- address of a pointer (JMP only)
  | izx (d8 : Byte)     -- X added to the place of a page-zero pointer
  | izy (d8 : Byte)     -- page-zero pointer, Y added to what it holds
  deriving DecidableEq, Repr

def AddrMode.mode : AddrMode → Mode
  | .zp _ => .zp
  | .zpx _ => .zpx
  | .zpy _ => .zpy
  | .abs _ => .abs
  | .abx _ => .abx
  | .aby _ => .aby
  | .ind _ => .ind
  | .izx _ => .izx
  | .izy _ => .izy

/-- Where a reading instruction takes its operand byte from (R69): the byte in the instruction, or memory. -/
inductive Src where
  | imm (d8 : Byte)
  | mem (m : AddrMode)
  deriving DecidableEq, Repr

def Src.mode : Src → Mode
  | .imm _ => .imm
  | .mem m => m.mode

/-- The operand field of an instruction, by format and mode (R50). -/
inductive Operand where
  | none                 -- imp: no operand
  | acc                  -- acc: the register A
  | src (o : Src)        -- imm, or a mode with an effective address
  | rel (d8 : Byte)      -- rel: signed branch offset
  deriving DecidableEq, Repr

def Operand.mode : Operand → Mode
  | .none => .imp
  | .acc => .acc
  | .src o => o.mode
  | .rel _ => .rel

/-- One constructor per row of spec/opcode_table.json: the mnemonic, then the mode where the mnemonic has several. -/
inductive Instr where
  -- LDA: R80 of 40_load_store.md
  | ldaImm (d8 : Byte) | ldaZp (d8 : Byte) | ldaZpx (d8 : Byte) | ldaAbs (addr : Word)
  | ldaAbx (addr : Word) | ldaAby (addr : Word) | ldaIzx (d8 : Byte) | ldaIzy (d8 : Byte)
  -- LDX: R81 of 40_load_store.md
  | ldxImm (d8 : Byte) | ldxZp (d8 : Byte) | ldxZpy (d8 : Byte) | ldxAbs (addr : Word)
  | ldxAby (addr : Word)
  -- LDY: R82 of 40_load_store.md
  | ldyImm (d8 : Byte) | ldyZp (d8 : Byte) | ldyZpx (d8 : Byte) | ldyAbs (addr : Word)
  | ldyAbx (addr : Word)
  -- STA: R83 of 40_load_store.md
  | staZp (d8 : Byte) | staZpx (d8 : Byte) | staAbs (addr : Word) | staAbx (addr : Word)
  | staAby (addr : Word) | staIzx (d8 : Byte) | staIzy (d8 : Byte)
  -- STX: R84 of 40_load_store.md
  | stxZp (d8 : Byte) | stxZpy (d8 : Byte) | stxAbs (addr : Word)
  -- STY: R85 of 40_load_store.md
  | styZp (d8 : Byte) | styZpx (d8 : Byte) | styAbs (addr : Word)
  -- ADC: R90 of 41_arithmetic.md
  | adcImm (d8 : Byte) | adcZp (d8 : Byte) | adcZpx (d8 : Byte) | adcAbs (addr : Word)
  | adcAbx (addr : Word) | adcAby (addr : Word) | adcIzx (d8 : Byte) | adcIzy (d8 : Byte)
  -- SBC: R92 of 41_arithmetic.md
  | sbcImm (d8 : Byte) | sbcZp (d8 : Byte) | sbcZpx (d8 : Byte) | sbcAbs (addr : Word)
  | sbcAbx (addr : Word) | sbcAby (addr : Word) | sbcIzx (d8 : Byte) | sbcIzy (d8 : Byte)
  -- AND: R95 of 42_logic.md
  | andImm (d8 : Byte) | andZp (d8 : Byte) | andZpx (d8 : Byte) | andAbs (addr : Word)
  | andAbx (addr : Word) | andAby (addr : Word) | andIzx (d8 : Byte) | andIzy (d8 : Byte)
  -- ORA: R96 of 42_logic.md
  | oraImm (d8 : Byte) | oraZp (d8 : Byte) | oraZpx (d8 : Byte) | oraAbs (addr : Word)
  | oraAbx (addr : Word) | oraAby (addr : Word) | oraIzx (d8 : Byte) | oraIzy (d8 : Byte)
  -- EOR: R97 of 42_logic.md
  | eorImm (d8 : Byte) | eorZp (d8 : Byte) | eorZpx (d8 : Byte) | eorAbs (addr : Word)
  | eorAbx (addr : Word) | eorAby (addr : Word) | eorIzx (d8 : Byte) | eorIzy (d8 : Byte)
  -- BIT: R98 of 42_logic.md
  | bitZp (d8 : Byte) | bitAbs (addr : Word)
  -- ASL: R101 of 43_shift_rotate.md
  | aslAcc | aslZp (d8 : Byte) | aslZpx (d8 : Byte) | aslAbs (addr : Word) | aslAbx (addr : Word)
  -- LSR: R102 of 43_shift_rotate.md
  | lsrAcc | lsrZp (d8 : Byte) | lsrZpx (d8 : Byte) | lsrAbs (addr : Word) | lsrAbx (addr : Word)
  -- ROL: R103 of 43_shift_rotate.md
  | rolAcc | rolZp (d8 : Byte) | rolZpx (d8 : Byte) | rolAbs (addr : Word) | rolAbx (addr : Word)
  -- ROR: R104 of 43_shift_rotate.md
  | rorAcc | rorZp (d8 : Byte) | rorZpx (d8 : Byte) | rorAbs (addr : Word) | rorAbx (addr : Word)
  -- INC: R106 of 44_inc_dec.md
  | incZp (d8 : Byte) | incZpx (d8 : Byte) | incAbs (addr : Word) | incAbx (addr : Word)
  -- DEC: R107 of 44_inc_dec.md
  | decZp (d8 : Byte) | decZpx (d8 : Byte) | decAbs (addr : Word) | decAbx (addr : Word)
  -- INX: R108 of 44_inc_dec.md
  | inx
  -- INY: R109 of 44_inc_dec.md
  | iny
  -- DEX: R110 of 44_inc_dec.md
  | dex
  -- DEY: R111 of 44_inc_dec.md
  | dey
  -- CMP: R113 of 45_compare.md
  | cmpImm (d8 : Byte) | cmpZp (d8 : Byte) | cmpZpx (d8 : Byte) | cmpAbs (addr : Word)
  | cmpAbx (addr : Word) | cmpAby (addr : Word) | cmpIzx (d8 : Byte) | cmpIzy (d8 : Byte)
  -- CPX: R114 of 45_compare.md
  | cpxImm (d8 : Byte) | cpxZp (d8 : Byte) | cpxAbs (addr : Word)
  -- CPY: R115 of 45_compare.md
  | cpyImm (d8 : Byte) | cpyZp (d8 : Byte) | cpyAbs (addr : Word)
  -- BCC: R118 of 46_branch.md
  | bcc (d8 : Byte)
  -- BCS: R119 of 46_branch.md
  | bcs (d8 : Byte)
  -- BEQ: R120 of 46_branch.md
  | beq (d8 : Byte)
  -- BNE: R121 of 46_branch.md
  | bne (d8 : Byte)
  -- BMI: R122 of 46_branch.md
  | bmi (d8 : Byte)
  -- BPL: R123 of 46_branch.md
  | bpl (d8 : Byte)
  -- BVC: R124 of 46_branch.md
  | bvc (d8 : Byte)
  -- BVS: R125 of 46_branch.md
  | bvs (d8 : Byte)
  -- JMP: R126 of 47_jump_call_interrupt.md
  | jmpAbs (addr : Word) | jmpInd (ptr : Word)
  -- JSR: R127 of 47_jump_call_interrupt.md
  | jsr (addr : Word)
  -- RTS: R128 of 47_jump_call_interrupt.md
  | rts
  -- BRK: R129 of 47_jump_call_interrupt.md
  | brk
  -- RTI: R130 of 47_jump_call_interrupt.md
  | rti
  -- PHA: R132 of 48_stack_transfer.md
  | pha
  -- PHP: R133 of 48_stack_transfer.md
  | php
  -- PLA: R134 of 48_stack_transfer.md
  | pla
  -- PLP: R135 of 48_stack_transfer.md
  | plp
  -- TAX: R136 of 48_stack_transfer.md
  | tax
  -- TAY: R137 of 48_stack_transfer.md
  | tay
  -- TXA: R138 of 48_stack_transfer.md
  | txa
  -- TYA: R139 of 48_stack_transfer.md
  | tya
  -- TSX: R140 of 48_stack_transfer.md
  | tsx
  -- TXS: R141 of 48_stack_transfer.md
  | txs
  -- SEC: R143 of 49_flag_nop.md
  | sec
  -- SED: R144 of 49_flag_nop.md
  | sed
  -- SEI: R145 of 49_flag_nop.md
  | sei
  -- CLC: R146 of 49_flag_nop.md
  | clc
  -- CLD: R147 of 49_flag_nop.md
  | cld
  -- CLI: R148 of 49_flag_nop.md
  | cli
  -- CLV: R149 of 49_flag_nop.md
  | clv
  -- NOP: R151 of 49_flag_nop.md
  | nop
  deriving DecidableEq, Repr

/-- The mnemonic of the row an instruction comes from. -/
def Instr.mnemonic : Instr → Mnemonic
  | .ldaImm _ | .ldaZp _ | .ldaZpx _ | .ldaAbs _ | .ldaAbx _ | .ldaAby _ | .ldaIzx _ | .ldaIzy _ => .lda
  | .ldxImm _ | .ldxZp _ | .ldxZpy _ | .ldxAbs _ | .ldxAby _ => .ldx
  | .ldyImm _ | .ldyZp _ | .ldyZpx _ | .ldyAbs _ | .ldyAbx _ => .ldy
  | .staZp _ | .staZpx _ | .staAbs _ | .staAbx _ | .staAby _ | .staIzx _ | .staIzy _ => .sta
  | .stxZp _ | .stxZpy _ | .stxAbs _ => .stx
  | .styZp _ | .styZpx _ | .styAbs _ => .sty
  | .adcImm _ | .adcZp _ | .adcZpx _ | .adcAbs _ | .adcAbx _ | .adcAby _ | .adcIzx _ | .adcIzy _ => .adc
  | .sbcImm _ | .sbcZp _ | .sbcZpx _ | .sbcAbs _ | .sbcAbx _ | .sbcAby _ | .sbcIzx _ | .sbcIzy _ => .sbc
  | .andImm _ | .andZp _ | .andZpx _ | .andAbs _ | .andAbx _ | .andAby _ | .andIzx _ | .andIzy _ => .and
  | .oraImm _ | .oraZp _ | .oraZpx _ | .oraAbs _ | .oraAbx _ | .oraAby _ | .oraIzx _ | .oraIzy _ => .ora
  | .eorImm _ | .eorZp _ | .eorZpx _ | .eorAbs _ | .eorAbx _ | .eorAby _ | .eorIzx _ | .eorIzy _ => .eor
  | .bitZp _ | .bitAbs _ => .bit
  | .aslAcc | .aslZp _ | .aslZpx _ | .aslAbs _ | .aslAbx _ => .asl
  | .lsrAcc | .lsrZp _ | .lsrZpx _ | .lsrAbs _ | .lsrAbx _ => .lsr
  | .rolAcc | .rolZp _ | .rolZpx _ | .rolAbs _ | .rolAbx _ => .rol
  | .rorAcc | .rorZp _ | .rorZpx _ | .rorAbs _ | .rorAbx _ => .ror
  | .incZp _ | .incZpx _ | .incAbs _ | .incAbx _ => .inc
  | .decZp _ | .decZpx _ | .decAbs _ | .decAbx _ => .dec
  | .inx => .inx
  | .iny => .iny
  | .dex => .dex
  | .dey => .dey
  | .cmpImm _ | .cmpZp _ | .cmpZpx _ | .cmpAbs _ | .cmpAbx _ | .cmpAby _ | .cmpIzx _ | .cmpIzy _ => .cmp
  | .cpxImm _ | .cpxZp _ | .cpxAbs _ => .cpx
  | .cpyImm _ | .cpyZp _ | .cpyAbs _ => .cpy
  | .bcc _ => .bcc
  | .bcs _ => .bcs
  | .beq _ => .beq
  | .bne _ => .bne
  | .bmi _ => .bmi
  | .bpl _ => .bpl
  | .bvc _ => .bvc
  | .bvs _ => .bvs
  | .jmpAbs _ | .jmpInd _ => .jmp
  | .jsr _ => .jsr
  | .rts => .rts
  | .brk => .brk
  | .rti => .rti
  | .pha => .pha
  | .php => .php
  | .pla => .pla
  | .plp => .plp
  | .tax => .tax
  | .tay => .tay
  | .txa => .txa
  | .tya => .tya
  | .tsx => .tsx
  | .txs => .txs
  | .sec => .sec
  | .sed => .sed
  | .sei => .sei
  | .clc => .clc
  | .cld => .cld
  | .cli => .cli
  | .clv => .clv
  | .nop => .nop

/-- The operand field and mode of an instruction. -/
def Instr.operand : Instr → Operand
  | .ldaImm d8 => .src (.imm d8)
  | .ldaZp d8 => .src (.mem (.zp d8))
  | .ldaZpx d8 => .src (.mem (.zpx d8))
  | .ldaAbs addr => .src (.mem (.abs addr))
  | .ldaAbx addr => .src (.mem (.abx addr))
  | .ldaAby addr => .src (.mem (.aby addr))
  | .ldaIzx d8 => .src (.mem (.izx d8))
  | .ldaIzy d8 => .src (.mem (.izy d8))
  | .ldxImm d8 => .src (.imm d8)
  | .ldxZp d8 => .src (.mem (.zp d8))
  | .ldxZpy d8 => .src (.mem (.zpy d8))
  | .ldxAbs addr => .src (.mem (.abs addr))
  | .ldxAby addr => .src (.mem (.aby addr))
  | .ldyImm d8 => .src (.imm d8)
  | .ldyZp d8 => .src (.mem (.zp d8))
  | .ldyZpx d8 => .src (.mem (.zpx d8))
  | .ldyAbs addr => .src (.mem (.abs addr))
  | .ldyAbx addr => .src (.mem (.abx addr))
  | .staZp d8 => .src (.mem (.zp d8))
  | .staZpx d8 => .src (.mem (.zpx d8))
  | .staAbs addr => .src (.mem (.abs addr))
  | .staAbx addr => .src (.mem (.abx addr))
  | .staAby addr => .src (.mem (.aby addr))
  | .staIzx d8 => .src (.mem (.izx d8))
  | .staIzy d8 => .src (.mem (.izy d8))
  | .stxZp d8 => .src (.mem (.zp d8))
  | .stxZpy d8 => .src (.mem (.zpy d8))
  | .stxAbs addr => .src (.mem (.abs addr))
  | .styZp d8 => .src (.mem (.zp d8))
  | .styZpx d8 => .src (.mem (.zpx d8))
  | .styAbs addr => .src (.mem (.abs addr))
  | .adcImm d8 => .src (.imm d8)
  | .adcZp d8 => .src (.mem (.zp d8))
  | .adcZpx d8 => .src (.mem (.zpx d8))
  | .adcAbs addr => .src (.mem (.abs addr))
  | .adcAbx addr => .src (.mem (.abx addr))
  | .adcAby addr => .src (.mem (.aby addr))
  | .adcIzx d8 => .src (.mem (.izx d8))
  | .adcIzy d8 => .src (.mem (.izy d8))
  | .sbcImm d8 => .src (.imm d8)
  | .sbcZp d8 => .src (.mem (.zp d8))
  | .sbcZpx d8 => .src (.mem (.zpx d8))
  | .sbcAbs addr => .src (.mem (.abs addr))
  | .sbcAbx addr => .src (.mem (.abx addr))
  | .sbcAby addr => .src (.mem (.aby addr))
  | .sbcIzx d8 => .src (.mem (.izx d8))
  | .sbcIzy d8 => .src (.mem (.izy d8))
  | .andImm d8 => .src (.imm d8)
  | .andZp d8 => .src (.mem (.zp d8))
  | .andZpx d8 => .src (.mem (.zpx d8))
  | .andAbs addr => .src (.mem (.abs addr))
  | .andAbx addr => .src (.mem (.abx addr))
  | .andAby addr => .src (.mem (.aby addr))
  | .andIzx d8 => .src (.mem (.izx d8))
  | .andIzy d8 => .src (.mem (.izy d8))
  | .oraImm d8 => .src (.imm d8)
  | .oraZp d8 => .src (.mem (.zp d8))
  | .oraZpx d8 => .src (.mem (.zpx d8))
  | .oraAbs addr => .src (.mem (.abs addr))
  | .oraAbx addr => .src (.mem (.abx addr))
  | .oraAby addr => .src (.mem (.aby addr))
  | .oraIzx d8 => .src (.mem (.izx d8))
  | .oraIzy d8 => .src (.mem (.izy d8))
  | .eorImm d8 => .src (.imm d8)
  | .eorZp d8 => .src (.mem (.zp d8))
  | .eorZpx d8 => .src (.mem (.zpx d8))
  | .eorAbs addr => .src (.mem (.abs addr))
  | .eorAbx addr => .src (.mem (.abx addr))
  | .eorAby addr => .src (.mem (.aby addr))
  | .eorIzx d8 => .src (.mem (.izx d8))
  | .eorIzy d8 => .src (.mem (.izy d8))
  | .bitZp d8 => .src (.mem (.zp d8))
  | .bitAbs addr => .src (.mem (.abs addr))
  | .aslAcc => .acc
  | .aslZp d8 => .src (.mem (.zp d8))
  | .aslZpx d8 => .src (.mem (.zpx d8))
  | .aslAbs addr => .src (.mem (.abs addr))
  | .aslAbx addr => .src (.mem (.abx addr))
  | .lsrAcc => .acc
  | .lsrZp d8 => .src (.mem (.zp d8))
  | .lsrZpx d8 => .src (.mem (.zpx d8))
  | .lsrAbs addr => .src (.mem (.abs addr))
  | .lsrAbx addr => .src (.mem (.abx addr))
  | .rolAcc => .acc
  | .rolZp d8 => .src (.mem (.zp d8))
  | .rolZpx d8 => .src (.mem (.zpx d8))
  | .rolAbs addr => .src (.mem (.abs addr))
  | .rolAbx addr => .src (.mem (.abx addr))
  | .rorAcc => .acc
  | .rorZp d8 => .src (.mem (.zp d8))
  | .rorZpx d8 => .src (.mem (.zpx d8))
  | .rorAbs addr => .src (.mem (.abs addr))
  | .rorAbx addr => .src (.mem (.abx addr))
  | .incZp d8 => .src (.mem (.zp d8))
  | .incZpx d8 => .src (.mem (.zpx d8))
  | .incAbs addr => .src (.mem (.abs addr))
  | .incAbx addr => .src (.mem (.abx addr))
  | .decZp d8 => .src (.mem (.zp d8))
  | .decZpx d8 => .src (.mem (.zpx d8))
  | .decAbs addr => .src (.mem (.abs addr))
  | .decAbx addr => .src (.mem (.abx addr))
  | .inx => .none
  | .iny => .none
  | .dex => .none
  | .dey => .none
  | .cmpImm d8 => .src (.imm d8)
  | .cmpZp d8 => .src (.mem (.zp d8))
  | .cmpZpx d8 => .src (.mem (.zpx d8))
  | .cmpAbs addr => .src (.mem (.abs addr))
  | .cmpAbx addr => .src (.mem (.abx addr))
  | .cmpAby addr => .src (.mem (.aby addr))
  | .cmpIzx d8 => .src (.mem (.izx d8))
  | .cmpIzy d8 => .src (.mem (.izy d8))
  | .cpxImm d8 => .src (.imm d8)
  | .cpxZp d8 => .src (.mem (.zp d8))
  | .cpxAbs addr => .src (.mem (.abs addr))
  | .cpyImm d8 => .src (.imm d8)
  | .cpyZp d8 => .src (.mem (.zp d8))
  | .cpyAbs addr => .src (.mem (.abs addr))
  | .bcc d8 => .rel d8
  | .bcs d8 => .rel d8
  | .beq d8 => .rel d8
  | .bne d8 => .rel d8
  | .bmi d8 => .rel d8
  | .bpl d8 => .rel d8
  | .bvc d8 => .rel d8
  | .bvs d8 => .rel d8
  | .jmpAbs addr => .src (.mem (.abs addr))
  | .jmpInd ptr => .src (.mem (.ind ptr))
  | .jsr addr => .src (.mem (.abs addr))
  | .rts => .none
  | .brk => .none
  | .rti => .none
  | .pha => .none
  | .php => .none
  | .pla => .none
  | .plp => .none
  | .tax => .none
  | .tay => .none
  | .txa => .none
  | .tya => .none
  | .tsx => .none
  | .txs => .none
  | .sec => .none
  | .sed => .none
  | .sei => .none
  | .clc => .none
  | .cld => .none
  | .cli => .none
  | .clv => .none
  | .nop => .none

def Instr.mode (i : Instr) : Mode := i.operand.mode

/-- Length in bytes, a function of the mode alone (R52). -/
def Instr.length (i : Instr) : Nat := i.mode.length

end Sys2Proof
end

