-- ==== Sys2Proof/WellFormed.lean ====
section
/-! DEFINITION. What the spec checks of an instruction (spec/30_encoding.md R71): the pairing of a mnemonic with an
addressing mode. The constructors of `Instr` are the valid pairs, so every `Instr` passes; the checks are stated over
any pair, as the spec states them over a descriptor table. -/

namespace Sys2Proof

/-- A descriptor: the (mnemonic, mode) pair of an opcode byte (R53). -/
structure Desc where
  mnemonic : Mnemonic
  mode : Mode
  deriving DecidableEq, Repr

/-- The entries of each mnemonic, mode and opcode byte: the second table of R54. -/
def opcodesOf : Mnemonic → List (Mode × Byte)
  | .lda => [(.imm, 0xA9), (.zp, 0xA5), (.zpx, 0xB5), (.abs, 0xAD),
      (.abx, 0xBD), (.aby, 0xB9), (.izx, 0xA1), (.izy, 0xB1)]
  | .ldx => [(.imm, 0xA2), (.zp, 0xA6), (.zpy, 0xB6), (.abs, 0xAE), (.aby, 0xBE)]
  | .ldy => [(.imm, 0xA0), (.zp, 0xA4), (.zpx, 0xB4), (.abs, 0xAC), (.abx, 0xBC)]
  | .sta => [(.zp, 0x85), (.zpx, 0x95), (.abs, 0x8D), (.abx, 0x9D), (.aby, 0x99), (.izx, 0x81), (.izy, 0x91)]
  | .stx => [(.zp, 0x86), (.zpy, 0x96), (.abs, 0x8E)]
  | .sty => [(.zp, 0x84), (.zpx, 0x94), (.abs, 0x8C)]
  | .adc => [(.imm, 0x69), (.zp, 0x65), (.zpx, 0x75), (.abs, 0x6D),
      (.abx, 0x7D), (.aby, 0x79), (.izx, 0x61), (.izy, 0x71)]
  | .sbc => [(.imm, 0xE9), (.zp, 0xE5), (.zpx, 0xF5), (.abs, 0xED),
      (.abx, 0xFD), (.aby, 0xF9), (.izx, 0xE1), (.izy, 0xF1)]
  | .and => [(.imm, 0x29), (.zp, 0x25), (.zpx, 0x35), (.abs, 0x2D),
      (.abx, 0x3D), (.aby, 0x39), (.izx, 0x21), (.izy, 0x31)]
  | .ora => [(.imm, 0x09), (.zp, 0x05), (.zpx, 0x15), (.abs, 0x0D),
      (.abx, 0x1D), (.aby, 0x19), (.izx, 0x01), (.izy, 0x11)]
  | .eor => [(.imm, 0x49), (.zp, 0x45), (.zpx, 0x55), (.abs, 0x4D),
      (.abx, 0x5D), (.aby, 0x59), (.izx, 0x41), (.izy, 0x51)]
  | .bit => [(.zp, 0x24), (.abs, 0x2C)]
  | .asl => [(.acc, 0x0A), (.zp, 0x06), (.zpx, 0x16), (.abs, 0x0E), (.abx, 0x1E)]
  | .lsr => [(.acc, 0x4A), (.zp, 0x46), (.zpx, 0x56), (.abs, 0x4E), (.abx, 0x5E)]
  | .rol => [(.acc, 0x2A), (.zp, 0x26), (.zpx, 0x36), (.abs, 0x2E), (.abx, 0x3E)]
  | .ror => [(.acc, 0x6A), (.zp, 0x66), (.zpx, 0x76), (.abs, 0x6E), (.abx, 0x7E)]
  | .inc => [(.zp, 0xE6), (.zpx, 0xF6), (.abs, 0xEE), (.abx, 0xFE)]
  | .dec => [(.zp, 0xC6), (.zpx, 0xD6), (.abs, 0xCE), (.abx, 0xDE)]
  | .inx => [(.imp, 0xE8)]
  | .iny => [(.imp, 0xC8)]
  | .dex => [(.imp, 0xCA)]
  | .dey => [(.imp, 0x88)]
  | .cmp => [(.imm, 0xC9), (.zp, 0xC5), (.zpx, 0xD5), (.abs, 0xCD),
      (.abx, 0xDD), (.aby, 0xD9), (.izx, 0xC1), (.izy, 0xD1)]
  | .cpx => [(.imm, 0xE0), (.zp, 0xE4), (.abs, 0xEC)]
  | .cpy => [(.imm, 0xC0), (.zp, 0xC4), (.abs, 0xCC)]
  | .bcc => [(.rel, 0x90)]
  | .bcs => [(.rel, 0xB0)]
  | .beq => [(.rel, 0xF0)]
  | .bne => [(.rel, 0xD0)]
  | .bmi => [(.rel, 0x30)]
  | .bpl => [(.rel, 0x10)]
  | .bvc => [(.rel, 0x50)]
  | .bvs => [(.rel, 0x70)]
  | .jmp => [(.abs, 0x4C), (.ind, 0x6C)]
  | .jsr => [(.abs, 0x20)]
  | .rts => [(.imp, 0x60)]
  | .brk => [(.imp, 0x00)]
  | .rti => [(.imp, 0x40)]
  | .pha => [(.imp, 0x48)]
  | .php => [(.imp, 0x08)]
  | .pla => [(.imp, 0x68)]
  | .plp => [(.imp, 0x28)]
  | .tax => [(.imp, 0xAA)]
  | .tay => [(.imp, 0xA8)]
  | .txa => [(.imp, 0x8A)]
  | .tya => [(.imp, 0x98)]
  | .tsx => [(.imp, 0xBA)]
  | .txs => [(.imp, 0x9A)]
  | .sec => [(.imp, 0x38)]
  | .sed => [(.imp, 0xF8)]
  | .sei => [(.imp, 0x78)]
  | .clc => [(.imp, 0x18)]
  | .cld => [(.imp, 0xD8)]
  | .cli => [(.imp, 0x58)]
  | .clv => [(.imp, 0xB8)]
  | .nop => [(.imp, 0xEA)]

/-- The modes each mnemonic has (R54). -/
def modesOf (m : Mnemonic) : List Mode := (opcodesOf m).map Prod.fst

/-- The eight branches (R68). -/
def Mnemonic.isBranch : Mnemonic → Bool
  | .bcc | .bcs | .beq | .bne | .bmi | .bpl | .bvc | .bvs => true
  | _ => false

/-- The shifts and rotates (R57). -/
def Mnemonic.isShift : Mnemonic → Bool
  | .asl | .lsr | .rol | .ror => true
  | _ => false

/-- The mnemonics R71 names as never immediate: stores, read-modify-write, control transfer. -/
def Mnemonic.neverImmediate : Mnemonic → Bool
  | .sta | .stx | .sty | .asl | .lsr | .rol | .ror | .inc | .dec => true
  | .bcc | .bcs | .beq | .bne | .bmi | .bpl | .bvc | .bvs | .jmp | .jsr | .rts | .brk | .rti => true
  | _ => false

/-- The mode is in the mnemonic's list (R71). -/
def Desc.listed (d : Desc) : Bool := (modesOf d.mnemonic).contains d.mode

/-- `ind` occurs only with JMP (R71). -/
def Desc.indOnlyJmp (d : Desc) : Bool := d.mode != .ind || d.mnemonic == .jmp

/-- `rel` occurs with the eight branches and nothing else (R71). -/
def Desc.relIffBranch (d : Desc) : Bool := (d.mode == .rel) == d.mnemonic.isBranch

/-- `acc` occurs only with ASL, LSR, ROL, ROR (R71). -/
def Desc.accOnlyShift (d : Desc) : Bool := d.mode != .acc || d.mnemonic.isShift

/-- `imm` never occurs with a store, a read-modify-write or a control transfer (R71). -/
def Desc.immReadsOnly (d : Desc) : Bool := d.mode != .imm || !d.mnemonic.neverImmediate

/-- All of R71. A descriptor that fails is the error `InvalidAddressingModeForMnemonic` (R163). -/
def Desc.wf (d : Desc) : Bool :=
  d.listed && d.indOnlyJmp && d.relIffBranch && d.accOnlyShift && d.immReadsOnly

/-- The descriptor of an instruction. -/
def Instr.desc (i : Instr) : Desc := ⟨i.mnemonic, i.mode⟩

/-- An instruction is well-formed when its descriptor passes R71. -/
def Instr.wf (i : Instr) : Bool := i.desc.wf

end Sys2Proof
end

