-- ==== Sys2Proof/Decode.lean ====
section
/-! DEFINITION. Decode and encode (spec/30_encoding.md R50 to R55). Decode is the table lookup of R53 on the opcode
byte, then the operand bytes of the format; it is written from the matrix of R54, row by row. The encoder is written
from R54's second table, by mnemonic. -/

namespace Sys2Proof

/-- `hi ++ lo` of two bytes as a Word (00_scope.md section 6). -/
def joinBytes (hi lo : Byte) : Word := hi ++ lo

/-- Bits 7:0 of a Word. -/
def loByte (w : Word) : Byte := w.extractLsb' 0 8

/-- Bits 15:8 of a Word. -/
def hiByte (w : Word) : Byte := w.extractLsb' 8 8

/-- What a table entry becomes once its operand bytes are known: formats F1, F2, F3 of R50. -/
inductive Form where
  | f1 (i : Instr)
  | f2 (mk : Byte → Instr)
  | f3 (mk : Word → Instr)

/-- No descriptor (R55). -/
def illegal : Option Form := none
def f1 (i : Instr) : Option Form := some (.f1 i)
def f2 (mk : Byte → Instr) : Option Form := some (.f2 mk)
def f3 (mk : Word → Instr) : Option Form := some (.f3 mk)

/-- Opcodes 00 to 0F (R54). -/
def descRow0 : List (Option Form) :=
  [f1 .brk, f2 .oraIzx, illegal, illegal,
   illegal, f2 .oraZp, f2 .aslZp, illegal,
   f1 .php, f2 .oraImm, f1 .aslAcc, illegal,
   illegal, f3 .oraAbs, f3 .aslAbs, illegal]

/-- Opcodes 10 to 1F (R54). -/
def descRow1 : List (Option Form) :=
  [f2 .bpl, f2 .oraIzy, illegal, illegal,
   illegal, f2 .oraZpx, f2 .aslZpx, illegal,
   f1 .clc, f3 .oraAby, illegal, illegal,
   illegal, f3 .oraAbx, f3 .aslAbx, illegal]

/-- Opcodes 20 to 2F (R54). -/
def descRow2 : List (Option Form) :=
  [f3 .jsr, f2 .andIzx, illegal, illegal,
   f2 .bitZp, f2 .andZp, f2 .rolZp, illegal,
   f1 .plp, f2 .andImm, f1 .rolAcc, illegal,
   f3 .bitAbs, f3 .andAbs, f3 .rolAbs, illegal]

/-- Opcodes 30 to 3F (R54). -/
def descRow3 : List (Option Form) :=
  [f2 .bmi, f2 .andIzy, illegal, illegal,
   illegal, f2 .andZpx, f2 .rolZpx, illegal,
   f1 .sec, f3 .andAby, illegal, illegal,
   illegal, f3 .andAbx, f3 .rolAbx, illegal]

/-- Opcodes 40 to 4F (R54). -/
def descRow4 : List (Option Form) :=
  [f1 .rti, f2 .eorIzx, illegal, illegal,
   illegal, f2 .eorZp, f2 .lsrZp, illegal,
   f1 .pha, f2 .eorImm, f1 .lsrAcc, illegal,
   f3 .jmpAbs, f3 .eorAbs, f3 .lsrAbs, illegal]

/-- Opcodes 50 to 5F (R54). -/
def descRow5 : List (Option Form) :=
  [f2 .bvc, f2 .eorIzy, illegal, illegal,
   illegal, f2 .eorZpx, f2 .lsrZpx, illegal,
   f1 .cli, f3 .eorAby, illegal, illegal,
   illegal, f3 .eorAbx, f3 .lsrAbx, illegal]

/-- Opcodes 60 to 6F (R54). -/
def descRow6 : List (Option Form) :=
  [f1 .rts, f2 .adcIzx, illegal, illegal,
   illegal, f2 .adcZp, f2 .rorZp, illegal,
   f1 .pla, f2 .adcImm, f1 .rorAcc, illegal,
   f3 .jmpInd, f3 .adcAbs, f3 .rorAbs, illegal]

/-- Opcodes 70 to 7F (R54). -/
def descRow7 : List (Option Form) :=
  [f2 .bvs, f2 .adcIzy, illegal, illegal,
   illegal, f2 .adcZpx, f2 .rorZpx, illegal,
   f1 .sei, f3 .adcAby, illegal, illegal,
   illegal, f3 .adcAbx, f3 .rorAbx, illegal]

/-- Opcodes 80 to 8F (R54). -/
def descRow8 : List (Option Form) :=
  [illegal, f2 .staIzx, illegal, illegal,
   f2 .styZp, f2 .staZp, f2 .stxZp, illegal,
   f1 .dey, illegal, f1 .txa, illegal,
   f3 .styAbs, f3 .staAbs, f3 .stxAbs, illegal]

/-- Opcodes 90 to 9F (R54). -/
def descRow9 : List (Option Form) :=
  [f2 .bcc, f2 .staIzy, illegal, illegal,
   f2 .styZpx, f2 .staZpx, f2 .stxZpy, illegal,
   f1 .tya, f3 .staAby, f1 .txs, illegal,
   illegal, f3 .staAbx, illegal, illegal]

/-- Opcodes A0 to AF (R54). -/
def descRowA : List (Option Form) :=
  [f2 .ldyImm, f2 .ldaIzx, f2 .ldxImm, illegal,
   f2 .ldyZp, f2 .ldaZp, f2 .ldxZp, illegal,
   f1 .tay, f2 .ldaImm, f1 .tax, illegal,
   f3 .ldyAbs, f3 .ldaAbs, f3 .ldxAbs, illegal]

/-- Opcodes B0 to BF (R54). -/
def descRowB : List (Option Form) :=
  [f2 .bcs, f2 .ldaIzy, illegal, illegal,
   f2 .ldyZpx, f2 .ldaZpx, f2 .ldxZpy, illegal,
   f1 .clv, f3 .ldaAby, f1 .tsx, illegal,
   f3 .ldyAbx, f3 .ldaAbx, f3 .ldxAby, illegal]

/-- Opcodes C0 to CF (R54). -/
def descRowC : List (Option Form) :=
  [f2 .cpyImm, f2 .cmpIzx, illegal, illegal,
   f2 .cpyZp, f2 .cmpZp, f2 .decZp, illegal,
   f1 .iny, f2 .cmpImm, f1 .dex, illegal,
   f3 .cpyAbs, f3 .cmpAbs, f3 .decAbs, illegal]

/-- Opcodes D0 to DF (R54). -/
def descRowD : List (Option Form) :=
  [f2 .bne, f2 .cmpIzy, illegal, illegal,
   illegal, f2 .cmpZpx, f2 .decZpx, illegal,
   f1 .cld, f3 .cmpAby, illegal, illegal,
   illegal, f3 .cmpAbx, f3 .decAbx, illegal]

/-- Opcodes E0 to EF (R54). -/
def descRowE : List (Option Form) :=
  [f2 .cpxImm, f2 .sbcIzx, illegal, illegal,
   f2 .cpxZp, f2 .sbcZp, f2 .incZp, illegal,
   f1 .inx, f2 .sbcImm, f1 .nop, illegal,
   f3 .cpxAbs, f3 .sbcAbs, f3 .incAbs, illegal]

/-- Opcodes F0 to FF (R54). -/
def descRowF : List (Option Form) :=
  [f2 .beq, f2 .sbcIzy, illegal, illegal,
   illegal, f2 .sbcZpx, f2 .incZpx, illegal,
   f1 .sed, f3 .sbcAby, illegal, illegal,
   illegal, f3 .sbcAbx, f3 .incAbx, illegal]

/-- `DESC` (R53, R54): 256 entries, indexed by the opcode byte. -/
def descTable : List (Option Form) :=
  descRow0 ++ descRow1 ++ descRow2 ++ descRow3 ++ descRow4 ++ descRow5 ++ descRow6 ++ descRow7 ++
  descRow8 ++ descRow9 ++ descRowA ++ descRowB ++ descRowC ++ descRowD ++ descRowE ++ descRowF

/-- `DESC[opcode]` (R53). -/
def descriptor (opc : Byte) : Option Form := descTable.getD opc.toNat none

/-- The outcome of decoding: an instruction and the bytes after it, or a rejection by name. -/
inductive DecodeResult where
  | ok (i : Instr) (rest : List Byte)
  | unimplementedOpcode (opc : Byte)   -- no descriptor (R55)
  | truncated                          -- fewer bytes than the instruction's length (R52)
  deriving DecidableEq, Repr

/-- Decode the instruction at the head of a list of bytes; total (R53). -/
def decode : List Byte → DecodeResult
  | [] => .truncated
  | opc :: rest =>
    match descriptor opc, rest with
    | none, _ => .unimplementedOpcode opc
    | some (.f1 i), _ => .ok i rest
    | some (.f2 mk), d8 :: rest => .ok (mk d8) rest
    | some (.f3 mk), lo :: hi :: rest => .ok (mk (joinBytes hi lo)) rest
    | some (.f2 _), [] => .truncated
    | some (.f3 _), [] => .truncated
    | some (.f3 _), [_] => .truncated

/-- The bytes of a format F2 instruction. -/
def bytes2 (opc d8 : Byte) : List Byte := [opc, d8]

/-- The bytes of a format F3 instruction: low operand byte first (R33, R50). -/
def bytes3 (opc : Byte) (w : Word) : List Byte := [opc, loByte w, hiByte w]

/-- The bytes of an instruction, lowest address first (R50, R54). -/
def encode : Instr → List Byte
  | .ldaImm d8 => bytes2 0xA9 d8
  | .ldaZp d8 => bytes2 0xA5 d8
  | .ldaZpx d8 => bytes2 0xB5 d8
  | .ldaAbs addr => bytes3 0xAD addr
  | .ldaAbx addr => bytes3 0xBD addr
  | .ldaAby addr => bytes3 0xB9 addr
  | .ldaIzx d8 => bytes2 0xA1 d8
  | .ldaIzy d8 => bytes2 0xB1 d8
  | .ldxImm d8 => bytes2 0xA2 d8
  | .ldxZp d8 => bytes2 0xA6 d8
  | .ldxZpy d8 => bytes2 0xB6 d8
  | .ldxAbs addr => bytes3 0xAE addr
  | .ldxAby addr => bytes3 0xBE addr
  | .ldyImm d8 => bytes2 0xA0 d8
  | .ldyZp d8 => bytes2 0xA4 d8
  | .ldyZpx d8 => bytes2 0xB4 d8
  | .ldyAbs addr => bytes3 0xAC addr
  | .ldyAbx addr => bytes3 0xBC addr
  | .staZp d8 => bytes2 0x85 d8
  | .staZpx d8 => bytes2 0x95 d8
  | .staAbs addr => bytes3 0x8D addr
  | .staAbx addr => bytes3 0x9D addr
  | .staAby addr => bytes3 0x99 addr
  | .staIzx d8 => bytes2 0x81 d8
  | .staIzy d8 => bytes2 0x91 d8
  | .stxZp d8 => bytes2 0x86 d8
  | .stxZpy d8 => bytes2 0x96 d8
  | .stxAbs addr => bytes3 0x8E addr
  | .styZp d8 => bytes2 0x84 d8
  | .styZpx d8 => bytes2 0x94 d8
  | .styAbs addr => bytes3 0x8C addr
  | .adcImm d8 => bytes2 0x69 d8
  | .adcZp d8 => bytes2 0x65 d8
  | .adcZpx d8 => bytes2 0x75 d8
  | .adcAbs addr => bytes3 0x6D addr
  | .adcAbx addr => bytes3 0x7D addr
  | .adcAby addr => bytes3 0x79 addr
  | .adcIzx d8 => bytes2 0x61 d8
  | .adcIzy d8 => bytes2 0x71 d8
  | .sbcImm d8 => bytes2 0xE9 d8
  | .sbcZp d8 => bytes2 0xE5 d8
  | .sbcZpx d8 => bytes2 0xF5 d8
  | .sbcAbs addr => bytes3 0xED addr
  | .sbcAbx addr => bytes3 0xFD addr
  | .sbcAby addr => bytes3 0xF9 addr
  | .sbcIzx d8 => bytes2 0xE1 d8
  | .sbcIzy d8 => bytes2 0xF1 d8
  | .andImm d8 => bytes2 0x29 d8
  | .andZp d8 => bytes2 0x25 d8
  | .andZpx d8 => bytes2 0x35 d8
  | .andAbs addr => bytes3 0x2D addr
  | .andAbx addr => bytes3 0x3D addr
  | .andAby addr => bytes3 0x39 addr
  | .andIzx d8 => bytes2 0x21 d8
  | .andIzy d8 => bytes2 0x31 d8
  | .oraImm d8 => bytes2 0x09 d8
  | .oraZp d8 => bytes2 0x05 d8
  | .oraZpx d8 => bytes2 0x15 d8
  | .oraAbs addr => bytes3 0x0D addr
  | .oraAbx addr => bytes3 0x1D addr
  | .oraAby addr => bytes3 0x19 addr
  | .oraIzx d8 => bytes2 0x01 d8
  | .oraIzy d8 => bytes2 0x11 d8
  | .eorImm d8 => bytes2 0x49 d8
  | .eorZp d8 => bytes2 0x45 d8
  | .eorZpx d8 => bytes2 0x55 d8
  | .eorAbs addr => bytes3 0x4D addr
  | .eorAbx addr => bytes3 0x5D addr
  | .eorAby addr => bytes3 0x59 addr
  | .eorIzx d8 => bytes2 0x41 d8
  | .eorIzy d8 => bytes2 0x51 d8
  | .bitZp d8 => bytes2 0x24 d8
  | .bitAbs addr => bytes3 0x2C addr
  | .aslAcc => [0x0A]
  | .aslZp d8 => bytes2 0x06 d8
  | .aslZpx d8 => bytes2 0x16 d8
  | .aslAbs addr => bytes3 0x0E addr
  | .aslAbx addr => bytes3 0x1E addr
  | .lsrAcc => [0x4A]
  | .lsrZp d8 => bytes2 0x46 d8
  | .lsrZpx d8 => bytes2 0x56 d8
  | .lsrAbs addr => bytes3 0x4E addr
  | .lsrAbx addr => bytes3 0x5E addr
  | .rolAcc => [0x2A]
  | .rolZp d8 => bytes2 0x26 d8
  | .rolZpx d8 => bytes2 0x36 d8
  | .rolAbs addr => bytes3 0x2E addr
  | .rolAbx addr => bytes3 0x3E addr
  | .rorAcc => [0x6A]
  | .rorZp d8 => bytes2 0x66 d8
  | .rorZpx d8 => bytes2 0x76 d8
  | .rorAbs addr => bytes3 0x6E addr
  | .rorAbx addr => bytes3 0x7E addr
  | .incZp d8 => bytes2 0xE6 d8
  | .incZpx d8 => bytes2 0xF6 d8
  | .incAbs addr => bytes3 0xEE addr
  | .incAbx addr => bytes3 0xFE addr
  | .decZp d8 => bytes2 0xC6 d8
  | .decZpx d8 => bytes2 0xD6 d8
  | .decAbs addr => bytes3 0xCE addr
  | .decAbx addr => bytes3 0xDE addr
  | .inx => [0xE8]
  | .iny => [0xC8]
  | .dex => [0xCA]
  | .dey => [0x88]
  | .cmpImm d8 => bytes2 0xC9 d8
  | .cmpZp d8 => bytes2 0xC5 d8
  | .cmpZpx d8 => bytes2 0xD5 d8
  | .cmpAbs addr => bytes3 0xCD addr
  | .cmpAbx addr => bytes3 0xDD addr
  | .cmpAby addr => bytes3 0xD9 addr
  | .cmpIzx d8 => bytes2 0xC1 d8
  | .cmpIzy d8 => bytes2 0xD1 d8
  | .cpxImm d8 => bytes2 0xE0 d8
  | .cpxZp d8 => bytes2 0xE4 d8
  | .cpxAbs addr => bytes3 0xEC addr
  | .cpyImm d8 => bytes2 0xC0 d8
  | .cpyZp d8 => bytes2 0xC4 d8
  | .cpyAbs addr => bytes3 0xCC addr
  | .bcc d8 => bytes2 0x90 d8
  | .bcs d8 => bytes2 0xB0 d8
  | .beq d8 => bytes2 0xF0 d8
  | .bne d8 => bytes2 0xD0 d8
  | .bmi d8 => bytes2 0x30 d8
  | .bpl d8 => bytes2 0x10 d8
  | .bvc d8 => bytes2 0x50 d8
  | .bvs d8 => bytes2 0x70 d8
  | .jmpAbs addr => bytes3 0x4C addr
  | .jmpInd ptr => bytes3 0x6C ptr
  | .jsr addr => bytes3 0x20 addr
  | .rts => [0x60]
  | .brk => [0x00]
  | .rti => [0x40]
  | .pha => [0x48]
  | .php => [0x08]
  | .pla => [0x68]
  | .plp => [0x28]
  | .tax => [0xAA]
  | .tay => [0xA8]
  | .txa => [0x8A]
  | .tya => [0x98]
  | .tsx => [0xBA]
  | .txs => [0x9A]
  | .sec => [0x38]
  | .sed => [0xF8]
  | .sei => [0x78]
  | .clc => [0x18]
  | .cld => [0xD8]
  | .cli => [0x58]
  | .clv => [0xB8]
  | .nop => [0xEA]

/-- The opcode byte of an instruction (R54). -/
def opcodeOf (i : Instr) : Byte := (encode i).headD 0

/-- Byte `k` of a number read little-endian: the order of the instruction's bytes in memory. -/
def byteOf (w k : Nat) : Byte := BitVec.ofNat 8 (w >>> (8 * k))

/-- The first three bytes, lowest address first, of an instruction given as a number of `nbits` bits (bit 0 the least
significant bit of the first byte); the bits above `nbits` are 0. -/
def tableBytes (nbits w : Nat) : List Byte :=
  let w := w % 2 ^ nbits
  [byteOf w 0, byteOf w 1, byteOf w 2]

/-- The instruction the decoder reads from a word of spec/opcode_table.json. -/
def decodeTableWord (nbits w : Nat) : Option Instr :=
  match decode (tableBytes nbits w) with
  | .ok i _ => some i
  | .unimplementedOpcode _ => none
  | .truncated => none

end Sys2Proof
end

