-- ==== Sys2Proof/Machine/State.lean ====
section
/-! DEFINITION. The state of the machine as plain data (spec/10_state.md R10 to R21), the reasons a step could stop,
and the state right after reset. -/

namespace Sys2Proof.Machine

/-- The seven stored flags of the status register P (R13). The eighth bit of the status byte is not storage. -/
structure Flags where
  n : Bool
  v : Bool
  b : Bool
  d : Bool
  i : Bool
  z : Bool
  c : Bool
  deriving DecidableEq, Repr

/-- The run state at an instruction boundary (R18): the two values that are ever seen there. -/
inductive RunState where
  | fetching
  | halted
  deriving DecidableEq, Repr

/-- The three error kinds (R20, R160). -/
inductive ErrorKind where
  | unimplementedOpcode
  | decimalModeUnsupported
  | invalidAddressingModeForMnemonic
  deriving DecidableEq, Repr

/-- What `raise` records (R20). -/
structure FaultRecord where
  kind : ErrorKind
  opcode : Byte      -- the opcode byte fetched
  address : Word     -- where it was fetched from
  deriving DecidableEq, Repr

/-- One entry of the access trace (20_memory.md R39). -/
inductive Access where
  | read (addr : Word) (val : Byte)
  | write (addr : Word) (val : Byte)
  deriving DecidableEq, Repr

/-- What stands behind an address (20_memory.md R30): storage that reads back what was written, storage that discards
writes, or a device (or nothing), whose answers are free values (log 1). -/
inductive Backing where
  | ram
  | rom
  | device
  deriving DecidableEq, Repr

/-- The addresses from `first` to `last` have one backing. -/
structure Region where
  first : Word
  last : Word
  backing : Backing
  deriving DecidableEq, Repr

/-- The bytes of the address space that differ from what an unlisted address reads as, addresses rising (R30, log 2). -/
abbrev Memory := List Host.Cell

/-- Everything the spec gives the machine, and one field of the model's own, `resetDraws`. -/
@[ext]
structure State where
  a : Byte                     -- accumulator (R10)
  x : Byte                     -- index register X (R10)
  y : Byte                     -- index register Y (R10)
  sp : Byte                    -- stack pointer (R11)
  pc : Word                    -- program counter (R12)
  p : Flags                    -- status register (R13)
  run : RunState               -- run state (R18)
  pendReset : Bool             -- request latches (R19)
  pendNmi : Bool
  pendIrq : Bool
  fault : Option FaultRecord   -- fault record (R20)
  mem : Memory                 -- what the memory collaborator's storage holds (20_memory.md R30, R31)
  regions : List Region        -- what backs each address: the parameter `MEM` (00_scope.md R4, log 1)
  devices : Nat                -- what the collaborator's devices hold, as a number (R31, log 1)
  trace : List Access          -- accesses of this step so far, oldest first (20_memory.md R39)
  resetDraws : Nat             -- how many reset sequences have run: the index of the next free reset values (log 4)
  deriving DecidableEq, Repr

/-- Reasons a step could stop the model. There are none: every error of this hardware is a `raise`, whose effect the
spec gives in full (60_exceptions.md R160), so it is a next state with `run = halted`; and the core raises nothing of
its own for a memory access (20_memory.md R31, R32). -/
inductive Fault where
  deriving DecidableEq, Repr

/-- Reasons the model could answer nothing. -/
inductive Refusal where
  /-- An instruction the model has no meaning for: only an arm of `exec` could raise it, and none does. Safe. -/
  | notModelled (mnemonic : String)
  deriving DecidableEq, Repr

/-- The outcome of a step or of an instruction. -/
abbrev Result := Host.Outcome State Fault Refusal

namespace State

def setA (s : State) (v : Byte) : State := { s with a := v }
def setX (s : State) (v : Byte) : State := { s with x := v }
def setY (s : State) (v : Byte) : State := { s with y := v }
def setSp (s : State) (v : Byte) : State := { s with sp := v }
def setPc (s : State) (v : Word) : State := { s with pc := v }
def setP (s : State) (v : Flags) : State := { s with p := v }
def setRun (s : State) (v : RunState) : State := { s with run := v }
def setPendReset (s : State) (v : Bool) : State := { s with pendReset := v }
def setPendNmi (s : State) (v : Bool) : State := { s with pendNmi := v }
def setPendIrq (s : State) (v : Bool) : State := { s with pendIrq := v }
def setFault (s : State) (v : Option FaultRecord) : State := { s with fault := v }
def setMem (s : State) (v : Memory) : State := { s with mem := v }
def setRegions (s : State) (v : List Region) : State := { s with regions := v }
def setDevices (s : State) (v : Nat) : State := { s with devices := v }
def setTrace (s : State) (v : List Access) : State := { s with trace := v }
def setResetDraws (s : State) (v : Nat) : State := { s with resetDraws := v }

/-- The machine right after the reset sequence over a memory with nothing listed (10_state.md R21, 92 D20).
PC is the content of the reset vector, which reads 0x0000 there; I, the run state, the latches and the fault record
are the spec's; A, X, Y, SP and the other flags are named by log 3, `trace` by log 9, `resetDraws` by log 4, `regions` (all RAM) and
`devices` by log 1. -/
def reset : State where
  a := 0x00
  x := 0x00
  y := 0x00
  sp := 0x00
  pc := 0x0000
  p := { n := false, v := false, b := false, d := false, i := true, z := false, c := false }
  run := .fetching
  pendReset := false
  pendNmi := false
  pendIrq := false
  fault := none
  mem := []
  regions := []
  devices := 0
  trace := []
  resetDraws := 0

end State

end Sys2Proof.Machine
end

