-- ==== Sys2Proof/Machine/Flags.lean ====
section
/-! DEFINITION. Every flag computation: the status byte and its reload (spec/10_state.md R15, R16), the generic
derivation of N and Z (R17), and the results and flags of the arithmetic, logic, shift, count and compare
instructions (files 41 to 45), as functions of bytes and flags alone. -/

namespace Sys2Proof.Machine

/-- `ToByte(P)`: bit 5 is always 1 (R15). -/
def Flags.toByte (p : Flags) : Byte :=
  BitVec.ofNat 8
    (p.n.toNat * 128 + p.v.toNat * 64 + 32 + p.b.toNat * 16 + p.d.toNat * 8 + p.i.toNat * 4 + p.z.toNat * 2 + p.c.toNat)

/-- `FromByte(b)`: bit 5 is ignored (R16). -/
def Flags.fromByte (b : Byte) : Flags where
  n := b.getLsbD 7
  v := b.getLsbD 6
  b := b.getLsbD 4
  d := b.getLsbD 3
  i := b.getLsbD 2
  z := b.getLsbD 1
  c := b.getLsbD 0

/-- The status byte PHP and BRK push: bit 4 forced to 1 (R15). -/
def Flags.pushedBySoftware (p : Flags) : Byte := p.toByte ||| 0x10

/-- The status byte an interrupt service pushes: bit 4 forced to 0 (R15). -/
def Flags.pushedByInterrupt (p : Flags) : Byte := p.toByte &&& 0xEF

/-- `SetNZ(v)` (R17). -/
def Flags.setNZ (p : Flags) (v : Byte) : Flags := { p with n := v.getLsbD 7, z := v == 0 }

/-- The unbounded sum `A + M + C` of ADC and SBC (41_arithmetic.md R90). -/
def addTotal (a m : Byte) (c : Bool) : Nat := a.toNat + m.toNat + c.toNat

/-- The 8-bit result of ADC on the operand byte, of SBC on its complement (R90, R92). -/
def addResult (a m : Byte) (c : Bool) : Byte := BitVec.ofNat 8 (addTotal a m c)

/-- N, V, Z, C after ADC, and after SBC on the complemented operand (R90, R92). -/
def Flags.afterAdd (p : Flags) (a m : Byte) : Flags :=
  let r := addResult a m p.c
  { p with
    c := decide (addTotal a m p.c > 255)
    v := ((a ^^^ r) &&& (m ^^^ r) &&& 0x80) != 0 }.setNZ r

/-- C, Z, N after a compare of a register with the operand byte (45_compare.md R113 to R115). -/
def Flags.afterCompare (p : Flags) (r m : Byte) : Flags :=
  { p with c := decide (r.toNat ≥ m.toNat), z := r == m, n := (r - m).getLsbD 7 }

/-- Z, N, V after BIT (42_logic.md R98). -/
def Flags.afterBit (p : Flags) (a m : Byte) : Flags :=
  { p with z := (a &&& m) == 0, n := m.getLsbD 7, v := m.getLsbD 6 }

/-! A shift, rotate or count takes the old byte and flags to the new byte and flags. -/

/-- ASL (43_shift_rotate.md R101). -/
def asl (v : Byte) (p : Flags) : Byte × Flags :=
  let r := v <<< 1
  (r, { p with c := v.getLsbD 7 }.setNZ r)

/-- LSR (R102). -/
def lsr (v : Byte) (p : Flags) : Byte × Flags :=
  let r := v >>> 1
  (r, { p with c := v.getLsbD 0 }.setNZ r)

/-- ROL (R103): the old carry enters bit 0. -/
def rol (v : Byte) (p : Flags) : Byte × Flags :=
  let r := (v <<< 1) ||| BitVec.ofNat 8 p.c.toNat
  (r, { p with c := v.getLsbD 7 }.setNZ r)

/-- ROR (R104): the old carry enters bit 7. -/
def ror (v : Byte) (p : Flags) : Byte × Flags :=
  let r := (v >>> 1) ||| (BitVec.ofNat 8 p.c.toNat <<< 7)
  (r, { p with c := v.getLsbD 0 }.setNZ r)

/-- INC, INX, INY (44_inc_dec.md R106, R108, R109). -/
def inc (v : Byte) (p : Flags) : Byte × Flags := (v + 1, p.setNZ (v + 1))

/-- DEC, DEX, DEY (R107, R110, R111). -/
def dec (v : Byte) (p : Flags) : Byte × Flags := (v - 1, p.setNZ (v - 1))

end Sys2Proof.Machine
end

