-- ==== Sys2Proof/Machine/Ops.lean ====
section
/-! DEFINITION. The named operations over memory and registers that the instructions share: memory bytes, the memory
collaborator, the two bus accesses (spec/20_memory.md R31, R39), 16-bit reads (R33), the stack (R37), instruction fetch
(30_encoding.md R51), `raise` (60_exceptions.md R160), trap entry (R169) and return (47 R130), the reset sequence
(70 R180), the choice at an instruction boundary (R165), the host's calls and the snapshot. -/

namespace Sys2Proof.Machine

/-! ### Memory as a list in canonical form -/

/-- What an address that is not listed reads as (log 2). -/
def unlistedByte : Byte := 0x00

/-- The byte at an address. -/
def Memory.readByte : Memory → Nat → Byte
  | [], _ => unlistedByte
  | c :: m, k => if c.1 = k then c.2 else Memory.readByte m k

/-- The memory without an entry for an address. -/
def Memory.eraseAt (m : Memory) (k : Nat) : Memory := m.filter fun c => c.1 != k

/-- Put an entry before the first one with a larger address. -/
def Memory.insertAt : Memory → Nat → Byte → Memory
  | [], k, v => [(k, v)]
  | c :: m, k, v => if k < c.1 then (k, v) :: c :: m else c :: Memory.insertAt m k v

/-- Write a byte; writing what an unlisted address reads as removes the entry. -/
def Memory.writeByte (m : Memory) (k : Nat) (v : Byte) : Memory :=
  if v = unlistedByte then m.eraseAt k else (m.eraseAt k).insertAt k v

/-- The canonical form: addresses strictly rising, inside the address space (R30), and no entry equal to what an
unlisted address reads as. -/
abbrev Memory.wf (m : Memory) : Prop :=
  m.Pairwise (fun c d => c.1 < d.1) ∧ ∀ c ∈ m, c.1 < 65536 ∧ c.2 ≠ unlistedByte

/-! ### The memory collaborator: two total functions over 65536 addresses, possibly stateful (R31, log 1) -/

/-- What backs an address: the first region that has it, RAM where none does. -/
def backingIn : List Region → Word → Backing
  | [], _ => .ram
  | r :: l, a => if r.first ≤ a ∧ a ≤ r.last then r.backing else backingIn l a

/-- What backs an address. -/
def State.backing (s : State) (a : Word) : Backing := backingIn s.regions a

/-- The byte that storage holds at an address; no access, no entry in the trace. -/
def State.peek (s : State) (a : Word) : Byte := s.mem.readByte a.toNat

/-- What a read of an address would answer now. -/
def State.answer (s : State) (a : Word) : Byte :=
  match s.backing a with
  | .ram | .rom => s.peek a
  | .device => Config.deviceAnswer s.devices a

/-- What the devices hold after a read of an address. -/
def State.devicesAfterRead (s : State) (a : Word) : Nat :=
  match s.backing a with
  | .ram | .rom => s.devices
  | .device => Config.deviceAfterRead s.devices a

/-- What the devices hold after a write. -/
def State.devicesAfterWrite (s : State) (a : Word) (v : Byte) : Nat :=
  match s.backing a with
  | .ram | .rom => s.devices
  | .device => Config.deviceAfterWrite s.devices a v

/-- What storage holds after a write: only RAM takes the byte. -/
def State.memAfterWrite (s : State) (a : Word) (v : Byte) : Memory :=
  match s.backing a with
  | .ram => s.mem.writeByte a.toNat v
  | .rom | .device => s.mem

/-! ### Bus accesses -/

/-- Add an access to the end of the trace (R39). -/
def State.log (s : State) (e : Access) : State := s.setTrace (s.trace ++ [e])

/-- `MemRead(addr, 1)` (R31). -/
def State.memRead (s : State) (a : Word) : Byte × State :=
  let v := s.answer a
  (v, (s.setDevices (s.devicesAfterRead a)).log (.read a v))

/-- `MemWrite(addr, 1, v)` (R31). -/
def State.memWrite (s : State) (a : Word) (v : Byte) : State :=
  ((s.setMem (s.memAfterWrite a v)).setDevices (s.devicesAfterWrite a v)).log (.write a v)

/-- The Word `zext_16(b)` (00_scope.md section 6). -/
def zext16 (b : Byte) : Word := b.setWidth 16

/-- The Word `sext_16(b)` (00_scope.md section 6). -/
def sext16 (b : Byte) : Word := if b.toNat < 128 then zext16 b else zext16 b + 0xFF00

/-- `Read16(a)`: low byte first, the second address modulo 65536 (R33). -/
def State.read16 (s : State) (a : Word) : Word × State :=
  let (lo, s) := s.memRead a
  let (hi, s) := s.memRead (a + 1)
  (joinBytes hi lo, s)

/-- `Read16ZP(p)`: both reads in page zero (R33). -/
def State.read16zp (s : State) (p : Byte) : Word × State :=
  let (lo, s) := s.memRead (zext16 p)
  let (hi, s) := s.memRead (zext16 (p + 1))
  (joinBytes hi lo, s)

/-! ### The stack -/

/-- The stack location an SP value designates (10_state.md R11). -/
def stackAddr (sp : Byte) : Word := Config.stackBase + zext16 sp

/-- `Push(v)` (R37). -/
def State.push (s : State) (v : Byte) : State :=
  let s := s.memWrite (stackAddr s.sp) v
  s.setSp (s.sp - 1)

/-- `Pull()` (R37). -/
def State.pull (s : State) : Byte × State :=
  let s := s.setSp (s.sp + 1)
  s.memRead (stackAddr s.sp)

/-! ### Errors, trap entry, return, reset -/

/-- `raise kind(opcode, address)` (60_exceptions.md R160): the record is written, the core halts, nothing is undone. -/
def State.raise (s : State) (kind : ErrorKind) (opcode : Byte) (address : Word) : State :=
  (s.setFault (some { kind := kind, opcode := opcode, address := address })).setRun .halted

/-- `Service(vec, b4)`: the one trap entry sequence of BRK, IRQ and NMI (R169). -/
def State.service (s : State) (vec : Word) (b4 : Bool) : State :=
  let s := s.push (hiByte s.pc)
  let s := s.push (loByte s.pc)
  let s := s.push (if b4 then s.p.pushedBySoftware else s.p.pushedByInterrupt)
  let s := s.setP { s.p with i := true }
  let (target, s) := s.read16 vec
  s.setPc target

/-- The return from a trap: the status byte, then PC low, then PC high (47_jump_call_interrupt.md R130). -/
def State.returnFromTrap (s : State) : State :=
  let (b, s) := s.pull
  let s := s.setP (.fromByte b)
  let (lo, s) := s.pull
  let (hi, s) := s.pull
  s.setPc (joinBytes hi lo)

/-- Service of a pending NMI: its latch is cleared and no other (R165, R167). -/
def State.serviceNmi (s : State) : State := (s.setPendNmi false).service Config.vecNmi false

/-- Service of a pending IRQ: its latch is cleared and no other (R165, R167). -/
def State.serviceIrq (s : State) : State := (s.setPendIrq false).service Config.vecIrq false

/-- The flags after a reset sequence: I is 1, the others are free values (10_state.md R21, log 4). -/
def resetFlags (k : Nat) : Flags where
  n := Config.resetN k
  v := Config.resetV k
  b := Config.resetB k
  d := Config.resetD k
  i := true
  z := Config.resetZ k
  c := Config.resetC k

/-- `ResetSequence()` (70_reset_and_hazards.md R180); what it leaves unspecified is a free value (log 4). -/
def State.resetSequence (s : State) : State :=
  let k := s.resetDraws
  let s := ((s.setPendReset false).setPendNmi false).setPendIrq false
  let s := (s.setFault none).setRun .fetching
  let s := ((s.setA (Config.resetA k)).setX (Config.resetX k)).setY (Config.resetY k)
  let s := (s.setSp (Config.resetSp k)).setP (resetFlags k)
  let s := s.setResetDraws (k + 1)
  let (entry, s) := s.read16 Config.vecReset
  s.setPc entry

/-! ### Instruction fetch -/

/-- `Fetch8()` (30_encoding.md R51). -/
def State.fetch8 (s : State) : Byte × State :=
  let (b, s) := s.memRead s.pc
  (b, s.setPc (s.pc + 1))

/-- What fetching at PC gives: an instruction with all its bytes read and PC past them, or an opcode byte without a
descriptor with PC past that byte (R51, R55). -/
inductive Fetched where
  | instr (i : Instr) (s : State)
  | illegal (opc : Byte) (s : State)

/-- Read the opcode byte, look up its descriptor, read the operand bytes of its format in ascending order (R51). -/
def State.fetch (s : State) : Fetched :=
  let (opc, s) := s.fetch8
  match descriptor opc with
  | none => .illegal opc s
  | some (.f1 i) => .instr i s
  | some (.f2 build) =>
    let (d8, s) := s.fetch8
    .instr (build d8) s
  | some (.f3 build) =>
    let (lo, s) := s.fetch8
    let (hi, s) := s.fetch8
    .instr (build (joinBytes hi lo)) s

/-! ### The instruction boundary -/

/-- The five things a step can be (60_exceptions.md R165). -/
inductive Boundary where
  | reset
  | idle
  | nmi
  | irq
  | instruction
  deriving DecidableEq, Repr

/-- Which of them this step is: RESET over NMI over IRQ, a halted core answers only to RESET, I masks only IRQ
(R165, R166, R168, R175). -/
def State.boundary (s : State) : Boundary :=
  if s.pendReset then .reset
  else if s.run = .halted then .idle
  else if s.pendNmi then .nmi
  else if s.pendIrq && !s.p.i then .irq
  else .instruction

/-- A step begins with no access made (R39, log 9). -/
def State.beginStep (s : State) : State := s.setTrace []

/-! ### The host's calls and the snapshot -/

/-- The three calls that drive the interrupt inputs (R164). -/
inductive Request where
  | reset
  | nmi
  | irq
  deriving DecidableEq, Repr

/-- `reset()`, `requestNMI()`, `requestIRQ()`: each sets its latch; requests do not count (R164). -/
def State.request (s : State) : Request → State
  | .reset => s.setPendReset true
  | .nmi => s.setPendNmi true
  | .irq => s.setPendIrq true

/-- The read-only output after a step (10_state.md R23); the spec fixes its content and no layout (log 16). -/
structure Snapshot where
  a : Byte
  x : Byte
  y : Byte
  sp : Byte
  pc : Word
  p : Byte
  run : RunState
  fault : Option FaultRecord
  deriving DecidableEq, Repr

/-- Taking the snapshot: the status byte is `ToByte(P)`, unadjusted (R15, R23). -/
def State.snapshot (s : State) : Snapshot where
  a := s.a
  x := s.x
  y := s.y
  sp := s.sp
  pc := s.pc
  p := s.p.toByte
  run := s.run
  fault := s.fault

/-- The same state with storage behind an address: a device there gives way to RAM (log 7). -/
def State.withStorageAt (s : State) (a : Word) : State :=
  match s.backing a with
  | .ram | .rom => s
  | .device => s.setRegions ({ first := a, last := a, backing := .ram } :: s.regions)

/-- Put bytes into memory from outside the core, at ascending addresses from `a` modulo 65536 (log 7). -/
def State.loadBytes (s : State) (a : Word) : List Byte → State
  | [] => s
  | b :: bs => ((s.withStorageAt a).setMem (s.mem.writeByte a.toNat b)).loadBytes (a + 1) bs

/-- Make the next boundary an instruction's: fetching, no reset or NMI pending, no IRQ pending that I permits. -/
def State.readyToFetch (s : State) : State :=
  (((s.setRun .fetching).setPendReset false).setPendNmi false).setPendIrq (s.pendIrq && s.p.i)

end Sys2Proof.Machine
end

