-- ==== Sys2Proof/Machine/Operands.lean ====
section
/-! DEFINITION. The addressing-mode resolver (spec/30_encoding.md R56 to R70): effective addresses with the pointer
reads they make, the operand byte, the branch target, and `pageCrossed`. PC already holds the address of the next
instruction. -/

namespace Sys2Proof.Machine

/-- The effective address of a mode, and the state after its pointer reads (R59 to R67). -/
def resolve (m : AddrMode) (s : State) : Word × State :=
  match m with
  | .zp d8 => (zext16 d8, s)
  | .zpx d8 => (zext16 (d8 + s.x), s)
  | .zpy d8 => (zext16 (d8 + s.y), s)
  | .abs addr => (addr, s)
  | .abx addr => (addr + zext16 s.x, s)
  | .aby addr => (addr + zext16 s.y, s)
  | .ind ptr =>
    let (tl, s) := s.memRead ptr
    let (th, s) := s.memRead ((ptr &&& 0xFF00) ||| ((ptr + 1) &&& 0x00FF))
    (joinBytes th tl, s)
  | .izx d8 => s.read16zp (d8 + s.x)
  | .izy d8 =>
    let (base, s) := s.read16zp d8
    (base + zext16 s.y, s)

/-- `Operand()`: the operand byte of a reading instruction (R58, R69). -/
def readSrc (o : Src) (s : State) : Byte × State :=
  match o with
  | .imm d8 => (d8, s)
  | .mem m =>
    let (ea, s) := resolve m s
    s.memRead ea

/-- The branch target: the offset is added to the address of the next instruction (R68). -/
def branchTarget (d8 : Byte) (s : State) : Word := s.pc + sext16 d8

/-- The address of the opcode of an instruction with this operand, when PC is past it (R12, R51, log 11). -/
def opcodeAddr (o : Src) (s : State) : Word := s.pc - BitVec.ofNat 16 o.mode.length

/-- Two addresses lie in different 256-byte pages (R63). -/
def differentPage (u v : Word) : Bool := (u &&& 0xFF00) != (v &&& 0xFF00)

/-- The resolver's `pageCrossed` output for a mode with an effective address (R70); no rule reads it (log 15). -/
def pageCrossed (m : AddrMode) (s : State) : Bool :=
  match m with
  | .abx addr => differentPage addr (addr + zext16 s.x)
  | .aby addr => differentPage addr (addr + zext16 s.y)
  | .izy d8 => differentPage (s.read16zp d8).1 (resolve (.izy d8) s).1
  | .zp _ | .zpx _ | .zpy _ | .abs _ | .ind _ | .izx _ => false

/-- `pageCrossed` for a branch: taken, to a different page than the instruction following (R70). -/
def branchPageCrossed (taken : Bool) (d8 : Byte) (s : State) : Bool :=
  taken && differentPage (branchTarget d8 s) s.pc

end Sys2Proof.Machine
end

