-- ==== Sys2Proof/Machine/Arithmetic.lean ====
section
/-! DEFINITION. Meanings of ADC and SBC (spec/41_arithmetic.md R90 to R92). -/

namespace Sys2Proof.Machine

/-- `M ^ 0xFF`, the operand SBC adds (R92). -/
def onesComplement (m : Byte) : Byte := m ^^^ 0xFF

/-- The binary sum into A, with N, V, Z, C (R90). -/
def State.addToA (s : State) (m : Byte) : State :=
  (s.setA (addResult s.a m s.p.c)).setP (s.p.afterAdd s.a m)

/-- ADC and SBC: the operand is read first; with D = 1 the instruction then raises and writes nothing (R91);
otherwise `adjust` of the operand is added (R90, R92). -/
def addOrRaiseDecimal (adjust : Byte → Byte) (opcode : Byte) (o : Src) (s : State) : Result :=
  let (m, s) := readSrc o s
  if s.p.d then .next (s.raise .decimalModeUnsupported opcode (opcodeAddr o s))
  else .next (s.addToA (adjust m))

/-! ADC (R90). -/
def execAdcImm (d8 : Byte) (s : State) : Result := addOrRaiseDecimal id 0x69 (.imm d8) s
def execAdcZp (d8 : Byte) (s : State) : Result := addOrRaiseDecimal id 0x65 (.mem (.zp d8)) s
def execAdcZpx (d8 : Byte) (s : State) : Result := addOrRaiseDecimal id 0x75 (.mem (.zpx d8)) s
def execAdcAbs (addr : Word) (s : State) : Result := addOrRaiseDecimal id 0x6D (.mem (.abs addr)) s
def execAdcAbx (addr : Word) (s : State) : Result := addOrRaiseDecimal id 0x7D (.mem (.abx addr)) s
def execAdcAby (addr : Word) (s : State) : Result := addOrRaiseDecimal id 0x79 (.mem (.aby addr)) s
def execAdcIzx (d8 : Byte) (s : State) : Result := addOrRaiseDecimal id 0x61 (.mem (.izx d8)) s
def execAdcIzy (d8 : Byte) (s : State) : Result := addOrRaiseDecimal id 0x71 (.mem (.izy d8)) s

/-! SBC (R92). -/
def execSbcImm (d8 : Byte) (s : State) : Result := addOrRaiseDecimal onesComplement 0xE9 (.imm d8) s
def execSbcZp (d8 : Byte) (s : State) : Result := addOrRaiseDecimal onesComplement 0xE5 (.mem (.zp d8)) s
def execSbcZpx (d8 : Byte) (s : State) : Result := addOrRaiseDecimal onesComplement 0xF5 (.mem (.zpx d8)) s
def execSbcAbs (addr : Word) (s : State) : Result := addOrRaiseDecimal onesComplement 0xED (.mem (.abs addr)) s
def execSbcAbx (addr : Word) (s : State) : Result := addOrRaiseDecimal onesComplement 0xFD (.mem (.abx addr)) s
def execSbcAby (addr : Word) (s : State) : Result := addOrRaiseDecimal onesComplement 0xF9 (.mem (.aby addr)) s
def execSbcIzx (d8 : Byte) (s : State) : Result := addOrRaiseDecimal onesComplement 0xE1 (.mem (.izx d8)) s
def execSbcIzy (d8 : Byte) (s : State) : Result := addOrRaiseDecimal onesComplement 0xF1 (.mem (.izy d8)) s

end Sys2Proof.Machine
end

