-- ==== Sys2Proof/Machine/Branch.lean ====
section
/-! DEFINITION. Meanings of the eight conditional branches (spec/46_branch.md R117 to R125). -/

namespace Sys2Proof.Machine

/-- A branch: PC takes the target if the condition holds; nothing else changes (R117). -/
def branchIf (cond : Bool) (d8 : Byte) (s : State) : Result :=
  .next (if cond then s.setPc (branchTarget d8 s) else s)

/-! BCC (R118). -/
def execBcc (d8 : Byte) (s : State) : Result := branchIf (!s.p.c) d8 s

/-! BCS (R119). -/
def execBcs (d8 : Byte) (s : State) : Result := branchIf s.p.c d8 s

/-! BEQ (R120). -/
def execBeq (d8 : Byte) (s : State) : Result := branchIf s.p.z d8 s

/-! BNE (R121). -/
def execBne (d8 : Byte) (s : State) : Result := branchIf (!s.p.z) d8 s

/-! BMI (R122). -/
def execBmi (d8 : Byte) (s : State) : Result := branchIf s.p.n d8 s

/-! BPL (R123). -/
def execBpl (d8 : Byte) (s : State) : Result := branchIf (!s.p.n) d8 s

/-! BVC (R124). -/
def execBvc (d8 : Byte) (s : State) : Result := branchIf (!s.p.v) d8 s

/-! BVS (R125). -/
def execBvs (d8 : Byte) (s : State) : Result := branchIf s.p.v d8 s

end Sys2Proof.Machine
end

