-- ==== Sys2Proof/Machine/Compare.lean ====
section
/-! DEFINITION. Meanings of CMP, CPX, CPY (spec/45_compare.md R113 to R115). -/

namespace Sys2Proof.Machine

/-- Compare a register with the operand byte: C, Z, N only; neither C nor D is read (R113 to R115). -/
def compareWith (r : Byte) (o : Src) (s : State) : Result :=
  let (m, s) := readSrc o s
  .next (s.setP (s.p.afterCompare r m))

/-! CMP (R113). -/
def execCmpImm (d8 : Byte) (s : State) : Result := compareWith s.a (.imm d8) s
def execCmpZp (d8 : Byte) (s : State) : Result := compareWith s.a (.mem (.zp d8)) s
def execCmpZpx (d8 : Byte) (s : State) : Result := compareWith s.a (.mem (.zpx d8)) s
def execCmpAbs (addr : Word) (s : State) : Result := compareWith s.a (.mem (.abs addr)) s
def execCmpAbx (addr : Word) (s : State) : Result := compareWith s.a (.mem (.abx addr)) s
def execCmpAby (addr : Word) (s : State) : Result := compareWith s.a (.mem (.aby addr)) s
def execCmpIzx (d8 : Byte) (s : State) : Result := compareWith s.a (.mem (.izx d8)) s
def execCmpIzy (d8 : Byte) (s : State) : Result := compareWith s.a (.mem (.izy d8)) s

/-! CPX (R114). -/
def execCpxImm (d8 : Byte) (s : State) : Result := compareWith s.x (.imm d8) s
def execCpxZp (d8 : Byte) (s : State) : Result := compareWith s.x (.mem (.zp d8)) s
def execCpxAbs (addr : Word) (s : State) : Result := compareWith s.x (.mem (.abs addr)) s

/-! CPY (R115). -/
def execCpyImm (d8 : Byte) (s : State) : Result := compareWith s.y (.imm d8) s
def execCpyZp (d8 : Byte) (s : State) : Result := compareWith s.y (.mem (.zp d8)) s
def execCpyAbs (addr : Word) (s : State) : Result := compareWith s.y (.mem (.abs addr)) s

end Sys2Proof.Machine
end

