-- ==== Sys2Proof/Machine/Control.lean ====
section
/-! DEFINITION. Meanings of JMP, JSR, RTS, BRK, RTI (spec/47_jump_call_interrupt.md R126 to R130). -/

namespace Sys2Proof.Machine

/-- JMP: PC takes the effective address, which is not read as data (R126). -/
def jump (m : AddrMode) (s : State) : Result :=
  let (ea, s) := resolve m s
  .next (s.setPc ea)

/-- JSR: the address of the instruction's last byte is pushed, high byte first (R127). -/
def State.call (s : State) (target : Word) : State :=
  let ret := s.pc - 1
  let s := s.push (hiByte ret)
  let s := s.push (loByte ret)
  s.setPc target

/-- RTS: the pulled address plus 1 (R128). -/
def State.returnFromCall (s : State) : State :=
  let (lo, s) := s.pull
  let (hi, s) := s.pull
  s.setPc (joinBytes hi lo + 1)

/-! JMP (R126). -/
def execJmpAbs (addr : Word) (s : State) : Result := jump (.abs addr) s
def execJmpInd (ptr : Word) (s : State) : Result := jump (.ind ptr) s

/-! JSR (R127). -/
def execJsr (addr : Word) (s : State) : Result := .next (s.call addr)

/-! RTS (R128). -/
def execRts (s : State) : Result := .next s.returnFromCall

/-! BRK (R129). -/
def execBrk (s : State) : Result := .next ((s.setPc (s.pc + 1)).service Config.vecIrq true)

/-! RTI (R130). -/
def execRti (s : State) : Result := .next s.returnFromTrap

end Sys2Proof.Machine
end

