-- ==== Sys2Proof/Machine/FlagNop.lean ====
section
/-! DEFINITION. Meanings of SEC, SED, SEI, CLC, CLD, CLI, CLV, NOP (spec/49_flag_nop.md R143 to R151). -/

namespace Sys2Proof.Machine

/-! SEC (R143). -/
def execSec (s : State) : Result := .next (s.setP { s.p with c := true })

/-! SED (R144). -/
def execSed (s : State) : Result := .next (s.setP { s.p with d := true })

/-! SEI (R145). -/
def execSei (s : State) : Result := .next (s.setP { s.p with i := true })

/-! CLC (R146). -/
def execClc (s : State) : Result := .next (s.setP { s.p with c := false })

/-! CLD (R147). -/
def execCld (s : State) : Result := .next (s.setP { s.p with d := false })

/-! CLI (R148). -/
def execCli (s : State) : Result := .next (s.setP { s.p with i := false })

/-! CLV (R149). -/
def execClv (s : State) : Result := .next (s.setP { s.p with v := false })

/-! NOP (R151). -/
def execNop (s : State) : Result := .next s

end Sys2Proof.Machine
end

