-- ==== Sys2Proof/Machine/Modify.lean ====
section
/-! DEFINITION. Read, change and write back one byte: the two shared operations of the shifts, rotates, increments and
decrements (spec/43_shift_rotate.md R100, 44_inc_dec.md R106 to R111). -/

namespace Sys2Proof.Machine

/-- A register changed by `f`, with the flags `f` gives (R100 mode acc; R108 to R111). -/
def modifyReg (set : State → Byte → State) (v : Byte) (f : Byte → Flags → Byte × Flags) (s : State) : Result :=
  let (r, p) := f v s.p
  .next ((set s r).setP p)

/-- A memory byte changed by `f`: one read, then one write at the same address, even if unchanged
(R100, R106, R107, 20_memory.md R40). -/
def modifyMem (f : Byte → Flags → Byte × Flags) (m : AddrMode) (s : State) : Result :=
  let (ea, s) := resolve m s
  let (v, s) := s.memRead ea
  let (r, p) := f v s.p
  .next ((s.setP p).memWrite ea r)

end Sys2Proof.Machine
end

