-- ==== Sys2Proof/Machine/IncDec.lean ====
section
/-! DEFINITION. Meanings of INC, DEC, INX, INY, DEX, DEY (spec/44_inc_dec.md R106 to R111). -/

namespace Sys2Proof.Machine

/-! INC (R106). -/
def execIncZp (d8 : Byte) (s : State) : Result := modifyMem inc (.zp d8) s
def execIncZpx (d8 : Byte) (s : State) : Result := modifyMem inc (.zpx d8) s
def execIncAbs (addr : Word) (s : State) : Result := modifyMem inc (.abs addr) s
def execIncAbx (addr : Word) (s : State) : Result := modifyMem inc (.abx addr) s

/-! DEC (R107). -/
def execDecZp (d8 : Byte) (s : State) : Result := modifyMem dec (.zp d8) s
def execDecZpx (d8 : Byte) (s : State) : Result := modifyMem dec (.zpx d8) s
def execDecAbs (addr : Word) (s : State) : Result := modifyMem dec (.abs addr) s
def execDecAbx (addr : Word) (s : State) : Result := modifyMem dec (.abx addr) s

/-! INX (R108). -/
def execInx (s : State) : Result := modifyReg State.setX s.x inc s

/-! INY (R109). -/
def execIny (s : State) : Result := modifyReg State.setY s.y inc s

/-! DEX (R110). -/
def execDex (s : State) : Result := modifyReg State.setX s.x dec s

/-! DEY (R111). -/
def execDey (s : State) : Result := modifyReg State.setY s.y dec s

end Sys2Proof.Machine
end

