-- ==== Sys2Proof/Machine/LoadStore.lean ====
section
/-! DEFINITION. Meanings of LDA LDX LDY STA STX STY (spec/40_load_store.md R80 to R85). `exec` runs a meaning after the
fetch, so PC already holds the address of the next instruction (30_encoding.md R51). -/

namespace Sys2Proof.Machine

/-- Load: the operand byte into a register, N and Z from it (R80 to R82). -/
def load (set : State → Byte → State) (o : Src) (s : State) : Result :=
  let (v, s) := readSrc o s
  .next ((set s v).setP (s.p.setNZ v))

/-- Store: one write at the effective address, which is not read (R83 to R85). -/
def store (v : Byte) (m : AddrMode) (s : State) : Result :=
  let (ea, s) := resolve m s
  .next (s.memWrite ea v)

/-! LDA (R80). -/
def execLdaImm (d8 : Byte) (s : State) : Result := load State.setA (.imm d8) s
def execLdaZp (d8 : Byte) (s : State) : Result := load State.setA (.mem (.zp d8)) s
def execLdaZpx (d8 : Byte) (s : State) : Result := load State.setA (.mem (.zpx d8)) s
def execLdaAbs (addr : Word) (s : State) : Result := load State.setA (.mem (.abs addr)) s
def execLdaAbx (addr : Word) (s : State) : Result := load State.setA (.mem (.abx addr)) s
def execLdaAby (addr : Word) (s : State) : Result := load State.setA (.mem (.aby addr)) s
def execLdaIzx (d8 : Byte) (s : State) : Result := load State.setA (.mem (.izx d8)) s
def execLdaIzy (d8 : Byte) (s : State) : Result := load State.setA (.mem (.izy d8)) s

/-! LDX (R81). -/
def execLdxImm (d8 : Byte) (s : State) : Result := load State.setX (.imm d8) s
def execLdxZp (d8 : Byte) (s : State) : Result := load State.setX (.mem (.zp d8)) s
def execLdxZpy (d8 : Byte) (s : State) : Result := load State.setX (.mem (.zpy d8)) s
def execLdxAbs (addr : Word) (s : State) : Result := load State.setX (.mem (.abs addr)) s
def execLdxAby (addr : Word) (s : State) : Result := load State.setX (.mem (.aby addr)) s

/-! LDY (R82). -/
def execLdyImm (d8 : Byte) (s : State) : Result := load State.setY (.imm d8) s
def execLdyZp (d8 : Byte) (s : State) : Result := load State.setY (.mem (.zp d8)) s
def execLdyZpx (d8 : Byte) (s : State) : Result := load State.setY (.mem (.zpx d8)) s
def execLdyAbs (addr : Word) (s : State) : Result := load State.setY (.mem (.abs addr)) s
def execLdyAbx (addr : Word) (s : State) : Result := load State.setY (.mem (.abx addr)) s

/-! STA (R83). -/
def execStaZp (d8 : Byte) (s : State) : Result := store s.a (.zp d8) s
def execStaZpx (d8 : Byte) (s : State) : Result := store s.a (.zpx d8) s
def execStaAbs (addr : Word) (s : State) : Result := store s.a (.abs addr) s
def execStaAbx (addr : Word) (s : State) : Result := store s.a (.abx addr) s
def execStaAby (addr : Word) (s : State) : Result := store s.a (.aby addr) s
def execStaIzx (d8 : Byte) (s : State) : Result := store s.a (.izx d8) s
def execStaIzy (d8 : Byte) (s : State) : Result := store s.a (.izy d8) s

/-! STX (R84). -/
def execStxZp (d8 : Byte) (s : State) : Result := store s.x (.zp d8) s
def execStxZpy (d8 : Byte) (s : State) : Result := store s.x (.zpy d8) s
def execStxAbs (addr : Word) (s : State) : Result := store s.x (.abs addr) s

/-! STY (R85). -/
def execStyZp (d8 : Byte) (s : State) : Result := store s.y (.zp d8) s
def execStyZpx (d8 : Byte) (s : State) : Result := store s.y (.zpx d8) s
def execStyAbs (addr : Word) (s : State) : Result := store s.y (.abs addr) s

end Sys2Proof.Machine
end

