-- ==== Sys2Proof/Machine/Logic.lean ====
section
/-! DEFINITION. Meanings of AND, ORA, EOR, BIT (spec/42_logic.md R95 to R98). -/

namespace Sys2Proof.Machine

/-- A bitwise operation into A, N and Z from the result (R95 to R97). -/
def logic (op : Byte → Byte → Byte) (o : Src) (s : State) : Result :=
  let (m, s) := readSrc o s
  let r := op s.a m
  .next ((s.setA r).setP (s.p.setNZ r))

/-- BIT: only tests (R98). -/
def bitTest (o : Src) (s : State) : Result :=
  let (m, s) := readSrc o s
  .next (s.setP (s.p.afterBit s.a m))

/-! AND (R95). -/
def execAndImm (d8 : Byte) (s : State) : Result := logic (· &&& ·) (.imm d8) s
def execAndZp (d8 : Byte) (s : State) : Result := logic (· &&& ·) (.mem (.zp d8)) s
def execAndZpx (d8 : Byte) (s : State) : Result := logic (· &&& ·) (.mem (.zpx d8)) s
def execAndAbs (addr : Word) (s : State) : Result := logic (· &&& ·) (.mem (.abs addr)) s
def execAndAbx (addr : Word) (s : State) : Result := logic (· &&& ·) (.mem (.abx addr)) s
def execAndAby (addr : Word) (s : State) : Result := logic (· &&& ·) (.mem (.aby addr)) s
def execAndIzx (d8 : Byte) (s : State) : Result := logic (· &&& ·) (.mem (.izx d8)) s
def execAndIzy (d8 : Byte) (s : State) : Result := logic (· &&& ·) (.mem (.izy d8)) s

/-! ORA (R96). -/
def execOraImm (d8 : Byte) (s : State) : Result := logic (· ||| ·) (.imm d8) s
def execOraZp (d8 : Byte) (s : State) : Result := logic (· ||| ·) (.mem (.zp d8)) s
def execOraZpx (d8 : Byte) (s : State) : Result := logic (· ||| ·) (.mem (.zpx d8)) s
def execOraAbs (addr : Word) (s : State) : Result := logic (· ||| ·) (.mem (.abs addr)) s
def execOraAbx (addr : Word) (s : State) : Result := logic (· ||| ·) (.mem (.abx addr)) s
def execOraAby (addr : Word) (s : State) : Result := logic (· ||| ·) (.mem (.aby addr)) s
def execOraIzx (d8 : Byte) (s : State) : Result := logic (· ||| ·) (.mem (.izx d8)) s
def execOraIzy (d8 : Byte) (s : State) : Result := logic (· ||| ·) (.mem (.izy d8)) s

/-! EOR (R97). -/
def execEorImm (d8 : Byte) (s : State) : Result := logic (· ^^^ ·) (.imm d8) s
def execEorZp (d8 : Byte) (s : State) : Result := logic (· ^^^ ·) (.mem (.zp d8)) s
def execEorZpx (d8 : Byte) (s : State) : Result := logic (· ^^^ ·) (.mem (.zpx d8)) s
def execEorAbs (addr : Word) (s : State) : Result := logic (· ^^^ ·) (.mem (.abs addr)) s
def execEorAbx (addr : Word) (s : State) : Result := logic (· ^^^ ·) (.mem (.abx addr)) s
def execEorAby (addr : Word) (s : State) : Result := logic (· ^^^ ·) (.mem (.aby addr)) s
def execEorIzx (d8 : Byte) (s : State) : Result := logic (· ^^^ ·) (.mem (.izx d8)) s
def execEorIzy (d8 : Byte) (s : State) : Result := logic (· ^^^ ·) (.mem (.izy d8)) s

/-! BIT (R98). -/
def execBitZp (d8 : Byte) (s : State) : Result := bitTest (.mem (.zp d8)) s
def execBitAbs (addr : Word) (s : State) : Result := bitTest (.mem (.abs addr)) s

end Sys2Proof.Machine
end

