-- ==== Sys2Proof/Machine/Shift.lean ====
section
/-! DEFINITION. Meanings of ASL, LSR, ROL, ROR (spec/43_shift_rotate.md R100 to R104). -/

namespace Sys2Proof.Machine

/-! ASL (R101). -/
def execAslAcc (s : State) : Result := modifyReg State.setA s.a asl s
def execAslZp (d8 : Byte) (s : State) : Result := modifyMem asl (.zp d8) s
def execAslZpx (d8 : Byte) (s : State) : Result := modifyMem asl (.zpx d8) s
def execAslAbs (addr : Word) (s : State) : Result := modifyMem asl (.abs addr) s
def execAslAbx (addr : Word) (s : State) : Result := modifyMem asl (.abx addr) s

/-! LSR (R102). -/
def execLsrAcc (s : State) : Result := modifyReg State.setA s.a lsr s
def execLsrZp (d8 : Byte) (s : State) : Result := modifyMem lsr (.zp d8) s
def execLsrZpx (d8 : Byte) (s : State) : Result := modifyMem lsr (.zpx d8) s
def execLsrAbs (addr : Word) (s : State) : Result := modifyMem lsr (.abs addr) s
def execLsrAbx (addr : Word) (s : State) : Result := modifyMem lsr (.abx addr) s

/-! ROL (R103). -/
def execRolAcc (s : State) : Result := modifyReg State.setA s.a rol s
def execRolZp (d8 : Byte) (s : State) : Result := modifyMem rol (.zp d8) s
def execRolZpx (d8 : Byte) (s : State) : Result := modifyMem rol (.zpx d8) s
def execRolAbs (addr : Word) (s : State) : Result := modifyMem rol (.abs addr) s
def execRolAbx (addr : Word) (s : State) : Result := modifyMem rol (.abx addr) s

/-! ROR (R104). -/
def execRorAcc (s : State) : Result := modifyReg State.setA s.a ror s
def execRorZp (d8 : Byte) (s : State) : Result := modifyMem ror (.zp d8) s
def execRorZpx (d8 : Byte) (s : State) : Result := modifyMem ror (.zpx d8) s
def execRorAbs (addr : Word) (s : State) : Result := modifyMem ror (.abs addr) s
def execRorAbx (addr : Word) (s : State) : Result := modifyMem ror (.abx addr) s

end Sys2Proof.Machine
end

