-- ==== Sys2Proof/Machine/StackTransfer.lean ====
section
/-! DEFINITION. Meanings of PHA, PHP, PLA, PLP and the six transfers (spec/48_stack_transfer.md R132 to R141). -/

namespace Sys2Proof.Machine

/-- A copy into a register with N and Z from it (R136 to R140). -/
def transfer (set : State → Byte → State) (v : Byte) (s : State) : Result :=
  .next ((set s v).setP (s.p.setNZ v))

/-- PLA: the pulled byte into A, N and Z from it (R134). -/
def State.pullA (s : State) : State :=
  let (v, s) := s.pull
  (s.setA v).setP (s.p.setNZ v)

/-- PLP: all seven flags from the pulled byte (R135). -/
def State.pullP (s : State) : State :=
  let (b, s) := s.pull
  s.setP (.fromByte b)

/-! PHA (R132). -/
def execPha (s : State) : Result := .next (s.push s.a)

/-! PHP (R133). -/
def execPhp (s : State) : Result := .next (s.push s.p.pushedBySoftware)

/-! PLA (R134). -/
def execPla (s : State) : Result := .next s.pullA

/-! PLP (R135). -/
def execPlp (s : State) : Result := .next s.pullP

/-! TAX (R136). -/
def execTax (s : State) : Result := transfer State.setX s.a s

/-! TAY (R137). -/
def execTay (s : State) : Result := transfer State.setY s.a s

/-! TXA (R138). -/
def execTxa (s : State) : Result := transfer State.setA s.x s

/-! TYA (R139). -/
def execTya (s : State) : Result := transfer State.setA s.y s

/-! TSX (R140). -/
def execTsx (s : State) : Result := transfer State.setX s.sp s

/-! TXS (R141). -/
def execTxs (s : State) : Result := .next (s.setSp s.x)

end Sys2Proof.Machine
end

