-- ==== Sys2Proof/Machine/Step.lean ====
section
/-! DEFINITION. One step of the machine (spec/60_exceptions.md R165), and the load that puts an instruction where the
next step fetches. -/

namespace Sys2Proof.Machine

/-- `ExecuteInstruction`: fetch, then the mnemonic's rule, or the error of an opcode byte with no descriptor, recorded
with the address it was read from (R161, R165). -/
def executeInstruction (s : State) : Result :=
  match s.fetch with
  | .instr i t => exec i t
  | .illegal opc t => .next (t.raise .unimplementedOpcode opc s.pc)

/-- One step: a reset sequence, nothing, an NMI or IRQ service, or one whole instruction (R165). -/
def step (s : State) : Host.Outcome State Fault Refusal :=
  let s := s.beginStep
  match s.boundary with
  | .reset => .next s.resetSequence
  | .idle => .next s
  | .nmi => .next s.serviceNmi
  | .irq => .next s.serviceIrq
  | .instruction => executeInstruction s

/-- `s` with the instruction given as a number stored at PC and the next boundary an instruction's (log 7). -/
def State.withFetchWord (s : State) (nbits w : Nat) : State :=
  s.readyToFetch.loadBytes s.pc (tableBytes nbits w)

end Sys2Proof.Machine
end

