-- ==== Sys2Proof/Safety.lean ====
section
/-! DEFINITION. The terms claims about whole runs use: well-formed states, when the next step runs an instruction, and
the states a host can bring the machine to. -/

namespace Sys2Proof.Machine

/-- An error kind fits its record: what raises it is an opcode byte that can (60_exceptions.md R161 to R163). -/
def FaultRecord.plausible (f : FaultRecord) : Prop :=
  match f.kind with
  | .unimplementedOpcode => descriptor f.opcode = none
  | .decimalModeUnsupported =>
    f.opcode ∈ ([0x69, 0x65, 0x75, 0x6D, 0x7D, 0x79, 0x61, 0x71, 0xE9, 0xE5, 0xF5, 0xED, 0xFD, 0xF9, 0xE1, 0xF1] : List Byte)
  | .invalidAddressingModeForMnemonic => False

/-- What holds of every state a run reaches: memory is in canonical form; the core is Halted exactly when the fault
record is filled (10_state.md R18, R20); and the record is one that a rule raises. -/
structure State.Inv (s : State) : Prop where
  memory : s.mem.wf
  haltedIffFault : s.run = .halted ↔ s.fault.isSome
  record : ∀ f ∈ s.fault, f.plausible

/-- The next step runs an instruction (60_exceptions.md R165). -/
def State.Ready (s : State) : Prop :=
  s.pendReset = false ∧ s.run = .fetching ∧ s.pendNmi = false ∧ (s.pendIrq = false ∨ s.p.i = true)

/-- What the world can do to the machine between steps: call `step`, make a request (R164), and, because storage and
devices are the collaborator's (20_memory.md R30), write a byte of storage, change what the devices hold, or put other
backings behind the addresses. -/
inductive HostAction where
  | step
  | request (r : Request)
  | writeByte (addr : Word) (val : Byte)
  | devicesBecome (d : Nat)
  | regionsBecome (l : List Region)
  deriving DecidableEq, Repr

/-- One host action. -/
def State.act (s : State) : HostAction → Result
  | .step => Sys2Proof.Machine.step s
  | .request r => .next (s.request r)
  | .writeByte a v => .next (s.setMem (s.mem.writeByte a.toNat v))
  | .devicesBecome d => .next (s.setDevices d)
  | .regionsBecome l => .next (s.setRegions l)

/-- The states some sequence of host actions reaches from `s`. -/
inductive Reaches (s : State) : State → Prop where
  | refl : Reaches s s
  | act {t u : State} (h : HostAction) (ht : Reaches s t) (hu : t.act h = .next u) : Reaches s u

end Sys2Proof.Machine
end

