-- ==== Sys2Proof/Certificates/Slice0/Obligations.lean ====
section
/-! DEFINITION. The statements about the machine, each a Prop named for what it says. The terms they share come first
(namespace Sys2Proof.Claims): the spec's formulas written over natural numbers and integers, apart from the model's own
operations, so that a statement compares the two. -/

namespace Sys2Proof.Claims

open Sys2Proof.Machine

/-- The Word whose high and low bytes are given (20_memory.md R33). -/
def word (hi lo : Byte) : Word := BitVec.ofNat 16 (hi.toNat * 256 + lo.toNat)

/-- N and Z from a result byte, the other flags as they are (10_state.md R17). -/
def withNZ (p : Flags) (v : Byte) : Flags := { p with n := decide (v.toNat ≥ 128), z := decide (v.toNat = 0) }

/-- The memory collaborator after one access, with the access in the trace (20_memory.md R31, R39; log 1): RAM takes a
byte written, ROM does not, and a device may notice a read or a write. -/
def afterAccess (s : State) : Access → State
  | .read a v => { s with
    devices := match s.backing a with
      | .ram | .rom => s.devices
      | .device => Config.deviceAfterRead s.devices a
    trace := s.trace ++ [.read a v] }
  | .write a v => { s with
    mem := match s.backing a with
      | .ram => s.mem.writeByte a.toNat v
      | .rom | .device => s.mem
    devices := match s.backing a with
      | .ram | .rom => s.devices
      | .device => Config.deviceAfterWrite s.devices a v
    trace := s.trace ++ [.write a v] }

/-- The state after accesses in order; no register changes. -/
def after (s : State) (l : List Access) : State := l.foldl afterAccess s

/-- A read of an address, as the trace shows it (R39). -/
def readOf (s : State) (a : Word) : Access := .read a (s.answer a)

/-- Reads of addresses in order, each answered after the ones before it. -/
def readsOf : List Word → State → List Access
  | [], _ => []
  | a :: l, s => readOf s a :: readsOf l (afterAccess s (readOf s a))

/-- The byte an access carries. -/
def valueOf : Access → Byte
  | .read _ v | .write _ v => v

/-- The Word that a read of its low byte and then a read of its high byte give (R33). -/
def wordFrom (lo hi : Word) (s : State) : Word := word ((afterAccess s (readOf s lo)).answer hi) (s.answer lo)

/-- The second byte of an indirect jump's pointer: the next address of the same page (30_encoding.md R65). -/
def nextInPage (ptr : Word) : Word := BitVec.ofNat 16 (ptr.toNat / 256 * 256 + (ptr.toNat + 1) % 256)

/-- The Word an addressing mode resolves to (30_encoding.md R59 to R67). -/
def effectiveAddress (m : AddrMode) (s : State) : Word :=
  match m with
  | .zp d8 => BitVec.ofNat 16 d8.toNat
  | .zpx d8 => BitVec.ofNat 16 ((d8.toNat + s.x.toNat) % 256)
  | .zpy d8 => BitVec.ofNat 16 ((d8.toNat + s.y.toNat) % 256)
  | .abs addr => addr
  | .abx addr => BitVec.ofNat 16 ((addr.toNat + s.x.toNat) % 65536)
  | .aby addr => BitVec.ofNat 16 ((addr.toNat + s.y.toNat) % 65536)
  | .ind ptr => wordFrom ptr (nextInPage ptr) s
  | .izx d8 =>
    let p := (d8.toNat + s.x.toNat) % 256
    wordFrom (BitVec.ofNat 16 p) (BitVec.ofNat 16 ((p + 1) % 256)) s
  | .izy d8 =>
    let base := wordFrom (BitVec.ofNat 16 d8.toNat) (BitVec.ofNat 16 ((d8.toNat + 1) % 256)) s
    BitVec.ofNat 16 ((base.toNat + s.y.toNat) % 65536)

/-- The pointer reads of a mode, low byte first (R65 to R67; 92_eei_decisions.md D15). -/
def pointerReads (m : AddrMode) (s : State) : List Access :=
  match m with
  | .ind ptr => readsOf [ptr, nextInPage ptr] s
  | .izx d8 =>
    let p := (d8.toNat + s.x.toNat) % 256
    readsOf [BitVec.ofNat 16 p, BitVec.ofNat 16 ((p + 1) % 256)] s
  | .izy d8 => readsOf [BitVec.ofNat 16 d8.toNat, BitVec.ofNat 16 ((d8.toNat + 1) % 256)] s
  | .zp _ | .zpx _ | .zpy _ | .abs _ | .abx _ | .aby _ => []

/-- The byte a reading instruction consumes (R58, R69). -/
def operandByte (o : Src) (s : State) : Byte :=
  match o with
  | .imm d8 => d8
  | .mem m => (after s (pointerReads m s)).answer (effectiveAddress m s)

/-- The accesses that fetch it: none for an immediate, else the pointer reads and one read (R58, R69). -/
def operandReads (o : Src) (s : State) : List Access :=
  match o with
  | .imm _ => []
  | .mem m => pointerReads m s ++ [readOf (after s (pointerReads m s)) (effectiveAddress m s)]

/-- Every instruction of mnemonic `mn` has one of the listed (mode, opcode) pairs, consumes one operand byte `v`,
and answers `result v t`, where `t` is the state after the operand's accesses. -/
def Reads (mn : Mnemonic) (table : List (Mode × Byte)) (result : Byte → State → State) : Prop :=
  ∀ (i : Instr) (s : State), i.mnemonic = mn →
    (i.mode, opcodeOf i) ∈ table ∧ ∃ o, i.operand = .src o ∧
      exec i s = .next (result (operandByte o s) (after s (operandReads o s)))

/-- As `Reads`, when D = 0. -/
def ReadsInBinaryMode (mn : Mnemonic) (table : List (Mode × Byte)) (result : Byte → State → State) : Prop :=
  ∀ (i : Instr) (s : State), i.mnemonic = mn → s.p.d = false →
    (i.mode, opcodeOf i) ∈ table ∧ ∃ o, i.operand = .src o ∧
      exec i s = .next (result (operandByte o s) (after s (operandReads o s)))

/-- Every instruction of mnemonic `mn` has one of the listed (mode, opcode) pairs and makes one write, of `value`, at
the address the resolver gives, after the pointer reads of its mode and with no other access. -/
def Stores (mn : Mnemonic) (table : List (Mode × Byte)) (value : State → Byte) : Prop :=
  ∀ (i : Instr) (s : State), i.mnemonic = mn →
    (i.mode, opcodeOf i) ∈ table ∧ ∃ m, i.operand = .src (.mem m) ∧
      exec i s = .next (after s (pointerReads m s ++ [.write (resolve m s).1 (value s)]))

/-- The flags after a byte became `r v c` with carry out `carry v c`: N and Z from the new byte. -/
def modifiedFlags (r : Byte → Bool → Nat) (carry : Byte → Bool → Bool) (v : Byte) (p : Flags) : Flags :=
  { withNZ p (BitVec.ofNat 8 (r v p.c)) with c := carry v p.c }

/-- Every instruction of mnemonic `mn` has one of the listed (mode, opcode) pairs and replaces a byte `v` by `r v C`,
C by `carry v C`: the byte is A in mode acc; in a memory mode it is read once and then written once at the same
address, even if unchanged. -/
def Modifies (mn : Mnemonic) (table : List (Mode × Byte)) (r : Byte → Bool → Nat) (carry : Byte → Bool → Bool) : Prop :=
  ∀ (i : Instr) (s : State), i.mnemonic = mn →
    (i.mode, opcodeOf i) ∈ table ∧
    ((i.operand = .acc ∧
        exec i s = .next { s with a := BitVec.ofNat 8 (r s.a s.p.c), p := modifiedFlags r carry s.a s.p }) ∨
      ∃ m, i.operand = .src (.mem m) ∧
        let ea := (resolve m s).1
        let v := (after s (pointerReads m s)).answer ea
        let w := BitVec.ofNat 8 (r v s.p.c)
        exec i s = .next { after s (pointerReads m s ++ [.read ea v, .write ea w]) with
          p := modifiedFlags r carry v s.p })

/-- A one-byte instruction with the given opcode answers `result s` from every state. -/
def Implied (i : Instr) (opc : Byte) (result : State → State) : Prop :=
  encode i = [opc] ∧ ∀ s, exec i s = .next (result s)

/-- The branch with the given opcode: if the condition holds PC takes the sum, modulo 65536, of PC and the signed offset;
nothing else changes, and not even PC otherwise. -/
def Branches (mn : Mnemonic) (opc : Byte) (cond : Flags → Bool) : Prop :=
  ∀ (i : Instr) (s : State), i.mnemonic = mn →
    ∃ d8, i.operand = .rel d8 ∧ encode i = [opc, d8] ∧
      exec i s = .next (if cond s.p then { s with pc := BitVec.ofInt 16 (s.pc.toNat + d8.toInt) } else s)

/-- The flags of a compare (45_compare.md): C if the register is at least the operand, Z if equal, N from bit 7 of the
difference. -/
def comparedFlags (r m : Byte) (p : Flags) : Flags :=
  { p with
    c := decide (m.toNat ≤ r.toNat)
    z := decide (r.toNat = m.toNat)
    n := decide ((r.toNat + 256 - m.toNat) % 256 ≥ 128) }

/-- The stack location of an SP value (10_state.md R11). -/
def stackLoc (sp : Byte) : Word := BitVec.ofNat 16 (0x100 + sp.toNat)

/-- The stack page is RAM. -/
def StackIsRam (s : State) : Prop := ∀ k, s.backing (stackLoc k) = .ram

/-- The bytes that the next `n` pulls would be answered with, in order (20_memory.md R37). -/
def pulled (n : Nat) (s : State) : List Byte :=
  (readsOf ((List.range n).map fun k => stackLoc (s.sp + BitVec.ofNat 8 (k + 1))) s).map valueOf

/-- The state after the trap entry sequence of 60_exceptions.md R169 with the pushed return address `ret` and status
byte `status`. -/
def afterTrapEntry (s : State) (ret : Word) (status : Byte) (vec : Word) : State :=
  let t := after s [.write (stackLoc s.sp) (hiByte ret), .write (stackLoc (s.sp - 1)) (loByte ret),
    .write (stackLoc (s.sp - 2)) status]
  { after t (readsOf [vec, vec + 1] t) with
    sp := s.sp - 3
    p := { s.p with i := true }
    pc := wordFrom vec (vec + 1) t }

/-- The bytes that the next reads at PC and the two addresses after it would be answered with. -/
def bytesAtPc (s : State) : List Byte := (readsOf [s.pc, s.pc + 1, s.pc + 2] s).map valueOf

/-- The state in which the instruction fetched at PC runs: PC past it, its bytes read in ascending order (R51). -/
def afterFetch (s : State) (i : Instr) : State :=
  { after { s with trace := [] } (readsOf ((List.range i.length).map fun k => s.pc + BitVec.ofNat 16 k) s) with
    pc := s.pc + BitVec.ofNat 16 i.length }

/-- The 105 illegal opcode bytes, row by row (30_encoding.md R55). -/
def illegalBytes : List Byte :=
  [0x02, 0x03, 0x04, 0x07, 0x0B, 0x0C, 0x0F] ++ [0x12, 0x13, 0x14, 0x17, 0x1A, 0x1B, 0x1C, 0x1F] ++
  [0x22, 0x23, 0x27, 0x2B, 0x2F] ++ [0x32, 0x33, 0x34, 0x37, 0x3A, 0x3B, 0x3C, 0x3F] ++
  [0x42, 0x43, 0x44, 0x47, 0x4B, 0x4F] ++ [0x52, 0x53, 0x54, 0x57, 0x5A, 0x5B, 0x5C, 0x5F] ++
  [0x62, 0x63, 0x64, 0x67, 0x6B, 0x6F] ++ [0x72, 0x73, 0x74, 0x77, 0x7A, 0x7B, 0x7C, 0x7F] ++
  [0x80, 0x82, 0x83, 0x87, 0x89, 0x8B, 0x8F] ++ [0x92, 0x93, 0x97, 0x9B, 0x9C, 0x9E, 0x9F] ++
  [0xA3, 0xA7, 0xAB, 0xAF] ++ [0xB2, 0xB3, 0xB7, 0xBB, 0xBF] ++
  [0xC2, 0xC3, 0xC7, 0xCB, 0xCF] ++ [0xD2, 0xD3, 0xD4, 0xD7, 0xDA, 0xDB, 0xDC, 0xDF] ++
  [0xE2, 0xE3, 0xE7, 0xEB, 0xEF] ++ [0xF2, 0xF3, 0xF4, 0xF7, 0xFA, 0xFB, 0xFC, 0xFF]

/-- The addresses an instruction stores to: the resolver's address for a store or a read-modify-write of memory, the
stack locations it pushes to, nothing for every other form. -/
def storedAddresses (i : Instr) (s : State) : List Word :=
  match i.mnemonic, i.operand with
  | .sta, .src (.mem m) | .stx, .src (.mem m) | .sty, .src (.mem m) => [(resolve m s).1]
  | .asl, .src (.mem m) | .lsr, .src (.mem m) | .rol, .src (.mem m) | .ror, .src (.mem m) => [(resolve m s).1]
  | .inc, .src (.mem m) | .dec, .src (.mem m) => [(resolve m s).1]
  | .pha, _ | .php, _ => [stackAddr s.sp]
  | .jsr, _ => [stackAddr s.sp, stackAddr (s.sp - 1)]
  | .brk, _ => [stackAddr s.sp, stackAddr (s.sp - 1), stackAddr (s.sp - 2)]
  | _, _ => []

/-- The collaborator after a trace, if every read in it answers what the collaborator gives at that point. -/
def replay : List Access → State → Option State
  | [], s => some s
  | .read a v :: l, s => if s.answer a = v then replay l (afterAccess s (.read a v)) else none
  | .write a v :: l, s => replay l (afterAccess s (.write a v))

/-- Two states that agree in everything but the live B flag. -/
def SameButB (s u : State) : Prop := u = { s with p := { s.p with b := u.p.b } }

end Sys2Proof.Claims

open Sys2Proof Sys2Proof.Machine Sys2Proof.Claims

/-- 10_state.md R15: the status byte, and the byte each of its users takes from it. -/
def Obligations.StatusByteLayout : Prop :=
  ∀ s : State,
    s.p.toByte.toNat = s.p.n.toNat * 128 + s.p.v.toNat * 64 + 32 + s.p.b.toNat * 16 + s.p.d.toNat * 8 +
      s.p.i.toNat * 4 + s.p.z.toNat * 2 + s.p.c.toNat ∧
    s.p.toByte.getLsbD 5 = true ∧
    s.snapshot.p = s.p.toByte ∧
    let newAccess (t : State) (k : Nat) : Option Access := (t.trace.drop s.trace.length)[k]?
    (∃ t, exec .php s = .next t ∧ newAccess t 0 = some (.write (stackLoc s.sp) (s.p.toByte ||| 0x10))) ∧
    (∃ t, exec .brk s = .next t ∧ newAccess t 2 = some (.write (stackLoc (s.sp - 2)) (s.p.toByte ||| 0x10))) ∧
    newAccess s.serviceNmi 2 = some (.write (stackLoc (s.sp - 2)) (s.p.toByte &&& 0xEF)) ∧
    newAccess s.serviceIrq 2 = some (.write (stackLoc (s.sp - 2)) (s.p.toByte &&& 0xEF))

/-- 10_state.md R16: the reload of the flags from a byte. -/
def Obligations.StatusByteReload : Prop :=
  (∀ b : Byte, Flags.fromByte b =
    { n := b.getLsbD 7, v := b.getLsbD 6, b := b.getLsbD 4, d := b.getLsbD 3, i := b.getLsbD 2, z := b.getLsbD 1,
      c := b.getLsbD 0 } ∧ (Flags.fromByte b).toByte = b ||| 0x20) ∧
  (∀ p : Flags, Flags.fromByte p.toByte = p) ∧
  (∀ i s t, i = .plp ∨ i = .rti → exec i s = .next t → t.p = Flags.fromByte (s.answer (stackLoc (s.sp + 1)))) ∧
  (∀ i s t, i ≠ .plp → i ≠ .rti → exec i s = .next t → t.p.b = s.p.b)

/-- 10_state.md R17. -/
def Obligations.GenericNZ : Prop :=
  ∀ (p : Flags) (v : Byte),
    p.setNZ v = { p with n := decide (v.toNat ≥ 128), z := decide (v.toNat = 0) } ∧
    ¬((p.setNZ v).n = true ∧ (p.setNZ v).z = true)

/-- 20_memory.md R33, the two helpers. -/
def Obligations.SixteenBitReadsAreLittleEndian : Prop :=
  (∀ (s : State) (a : Word),
    let b := BitVec.ofNat 16 ((a.toNat + 1) % 65536)
    s.read16 a = (wordFrom a b s, after s (readsOf [a, b] s))) ∧
  (∀ (s : State) (p : Byte),
    let a := BitVec.ofNat 16 p.toNat
    let b := BitVec.ofNat 16 ((p.toNat + 1) % 256)
    s.read16zp p = (wordFrom a b s, after s (readsOf [a, b] s)))

/-- 20_memory.md R37. The location always lies in 0x0100..0x01FF (10_state.md R11). What it says of RAM and of the bytes
not written rests on the model's form for the open parameter `MEM` (log 1). -/
def Obligations.StackPushAndPull : Prop :=
  ∀ (s : State) (v : Byte),
    let t := s.push v
    let q := BitVec.ofNat 16 (0x100 + (s.sp.toNat + 1) % 256)
    0x100 ≤ (stackLoc s.sp).toNat ∧ (stackLoc s.sp).toNat ≤ 0x1FF ∧
    t = { after s [.write (stackLoc s.sp) v] with sp := BitVec.ofNat 8 ((s.sp.toNat + 255) % 256) } ∧
    (s.backing (stackLoc s.sp) = .ram →
      t.peek (BitVec.ofNat 16 (0x100 + (t.sp.toNat + 1) % 256)) = v ∧ t.pull.1 = v) ∧
    (∀ b, b ≠ stackLoc s.sp → t.peek b = s.peek b) ∧
    s.pull = (s.answer q, { after s [readOf s q] with sp := BitVec.ofNat 8 ((s.sp.toNat + 1) % 256) })

/-- 20_memory.md R38 (c), R31. RAM, ROM and devices are the model's form for the open parameter `MEM` (log 1). -/
def Obligations.LoadAfterStoreSeesTheStore : Prop :=
  ∀ (s : State) (a b : Word), ∃ t u,
    exec (.staAbs a) s = .next t ∧ exec (.ldaAbs b) t = .next u ∧
    u.a = match s.backing b with
      | .ram => if b = a then s.a else s.peek b
      | .rom => s.peek b
      | .device => Config.deviceAnswer
        (match s.backing a with
          | .ram | .rom => s.devices
          | .device => Config.deviceAfterWrite s.devices a s.a) b

/-- Decode and encode agree on all 151 forms and every operand (30_encoding.md R50 to R54). -/
def Obligations.DecodeUndoesEncode : Prop :=
  ∀ (i : Instr) (rest : List Byte),
    i.wf = true ∧ (encode i).length = i.length ∧ decode (encode i ++ rest) = .ok i rest

/-- The other direction of the round trip (30_encoding.md R50 to R54). -/
def Obligations.EncodeUndoesDecode : Prop :=
  ∀ (bytes rest : List Byte) (i : Instr), decode bytes = .ok i rest → bytes = encode i ++ rest

/-- 30_encoding.md R55, the list of illegal bytes. -/
def Obligations.IllegalBytesAreTheListed : Prop :=
  illegalBytes.length = 105 ∧ illegalBytes.Nodup ∧
  ∀ (opc : Byte) (rest : List Byte), decode (opc :: rest) = .unimplementedOpcode opc ↔ opc ∈ illegalBytes

/-- 30_encoding.md R71: the property that makes `InvalidAddressingModeForMnemonic` unreachable (60_exceptions.md R163). -/
def Obligations.EveryDescriptorPairsLegally : Prop :=
  ∀ (bytes rest : List Byte) (i : Instr), decode bytes = .ok i rest →
    i.mode ∈ modesOf i.mnemonic ∧
    (i.mode = .ind → i.mnemonic = .jmp) ∧
    (i.mode = .rel ↔ i.mnemonic ∈ [.bcc, .bcs, .beq, .bne, .bmi, .bpl, .bvc, .bvs]) ∧
    (i.mode = .acc → i.mnemonic ∈ [.asl, .lsr, .rol, .ror]) ∧
    (i.mode = .imm → i.mnemonic ∉ [.sta, .stx, .sty, .asl, .lsr, .rol, .ror, .inc, .dec, .bcc, .bcs, .beq, .bne,
      .bmi, .bpl, .bvc, .bvs, .jmp, .jsr, .rts, .brk, .rti])

/-- 30_encoding.md R54: the matrix the decoder is written from and the table by mnemonic agree. -/
def Obligations.OpcodeMatrixBothWays : Prop :=
  ∀ (mn : Mnemonic) (md : Mode) (opc : Byte),
    (md, opc) ∈ opcodesOf mn ↔
      ∃ i rest, decode (opc :: rest) = .ok i [] ∧ i.mnemonic = mn ∧ i.mode = md

/-- Words written out from 30_encoding.md R54 and R72. -/
def Obligations.WrittenOutBytesDecode : Prop :=
  decode [0xBD, 0x34, 0x12] = .ok (.ldaAbx 0x1234) [] ∧
  decode [0xD0, 0xF7] = .ok (.bne 0xF7) [] ∧
  decode [0x6C, 0xFF, 0x02] = .ok (.jmpInd 0x02FF) [] ∧
  decode [0x6A] = .ok .rorAcc [] ∧
  decode [0xB6, 0xF0] = .ok (.ldxZpy 0xF0) [] ∧
  decode [0x91, 0x80] = .ok (.staIzy 0x80) [] ∧
  decode [0x28] = .ok .plp [] ∧
  decode [0x02, 0xEA] = .unimplementedOpcode 0x02

/-- 30_encoding.md R51, with the choice of 60_exceptions.md R165. `afterFetch` also says that nothing past the instruction is read (R52). -/
def Obligations.StepRunsTheDecodedInstruction : Prop :=
  ∀ (s : State) (i : Instr) (rest : List Byte), s.Ready → decode (bytesAtPc s) = .ok i rest →
    step s = exec i (afterFetch s i)

/-- 60_exceptions.md R161. -/
def Obligations.IllegalOpcodeHaltsTheCore : Prop :=
  ∀ s : State, s.Ready → s.answer s.pc ∈ illegalBytes →
    step s = .next { after { s with trace := [] } [readOf s s.pc] with
      run := .halted
      fault := some { kind := .unimplementedOpcode, opcode := s.answer s.pc, address := s.pc }
      pc := s.pc + 1 }

/-- 60_exceptions.md R160, R165; that a raised error is a next state is the model's reading (log 8). -/
def Obligations.NoStepStops : Prop :=
  (∀ s : State, ∃ t, step s = .next t) ∧ ∀ (i : Instr) (s : State), ∃ t, exec i s = .next t

/-- 70_reset_and_hazards.md R180. The registers it leaves unspecified are free values, of which nothing is said. -/
def Obligations.ResetStep : Prop :=
  ∀ s : State, s.pendReset = true → ∃ t, step s = .next t ∧
    t.pendReset = false ∧ t.pendNmi = false ∧ t.pendIrq = false ∧ t.fault = none ∧ t.run = .fetching ∧
    t.p.i = true ∧ t.pc = wordFrom 0xFFFC 0xFFFD s ∧ t.mem = s.mem ∧ t.regions = s.regions ∧
    t.devices = (after s (readsOf [0xFFFC, 0xFFFD] s)).devices ∧ t.trace = readsOf [0xFFFC, 0xFFFD] s

/-- 10_state.md R21: the value before the reset is not assumed to survive; the free value is the model's form for it (log 4). -/
def Obligations.ResetForgetsTheOldState : Prop :=
  ∀ s u : State, s.pendReset = true → u.pendReset = true → s.mem = u.mem → s.regions = u.regions →
    s.devices = u.devices → s.resetDraws = u.resetDraws → step s = step u

/-- 10_state.md R21, the rows with a value; the other registers of State.reset are the model's choice (log 3) and not stated. -/
def Obligations.StateAfterReset : Prop :=
  State.reset.p.i = true ∧ State.reset.run = .fetching ∧ State.reset.pendReset = false ∧
  State.reset.pendNmi = false ∧ State.reset.pendIrq = false ∧ State.reset.fault = none ∧
  State.reset.snapshot.p.getLsbD 5 = true ∧
  State.reset.pc = wordFrom 0xFFFC 0xFFFD State.reset

/-- 60_exceptions.md R165, R166 (not masked), R167, R169, R170. -/
def Obligations.NmiEntry : Prop :=
  ∀ s : State, s.pendReset = false → s.run = .fetching → s.pendNmi = true →
    step s = .next (afterTrapEntry { s with pendNmi := false, trace := [] } s.pc (s.p.toByte &&& 0xEF) 0xFFFA)

/-- 60_exceptions.md R165 to R167, R169, R170. -/
def Obligations.IrqEntry : Prop :=
  ∀ s : State, s.pendReset = false → s.run = .fetching → s.pendNmi = false → s.pendIrq = true → s.p.i = false →
    step s = .next (afterTrapEntry { s with pendIrq := false, trace := [] } s.pc (s.p.toByte &&& 0xEF) 0xFFFE)

/-- 60_exceptions.md R166: IRQ is masked by I. -/
def Obligations.MaskedIrqWaits : Prop :=
  ∀ s t : State, s.pendReset = false → s.p.i = true → step { s with pendIrq := false } = .next t →
    step { s with pendIrq := true } = .next { t with pendIrq := true }

/-- 60_exceptions.md R167; 10_state.md R19 (no instruction reads or writes a latch). -/
def Obligations.LatchesAfterAStep : Prop :=
  (∀ s t : State, s.pendReset = false → step s = .next t →
    t.pendReset = false ∧
    t.pendNmi = (s.pendNmi && decide (s.run = .halted)) ∧
    t.pendIrq = (s.pendIrq && (decide (s.run = .halted) || s.pendNmi || s.p.i))) ∧
  ∀ (i : Instr) (s t : State), exec i s = .next t →
    t.pendReset = s.pendReset ∧ t.pendNmi = s.pendNmi ∧ t.pendIrq = s.pendIrq

/-- 60_exceptions.md R175, R164. -/
def Obligations.HaltedCoreIdles : Prop :=
  (∀ s : State, s.pendReset = false → s.run = .halted → step s = .next { s with trace := [] }) ∧
  ∀ s : State, s.request .reset = { s with pendReset := true } ∧ s.request .nmi = { s with pendNmi := true } ∧
    s.request .irq = { s with pendIrq := true }

/-- 60_exceptions.md R166, 49_flag_nop.md R148: no delay of one instruction. -/
def Obligations.CliTakesEffectAtTheNextBoundary : Prop :=
  ∀ s : State, s.pendReset = false → s.run = .fetching → s.pendNmi = false → s.pendIrq = true → s.p.i = true →
    s.answer s.pc = 0x58 →
    ∃ t, step s = .next t ∧ t.p = { s.p with i := false } ∧ t.pc = s.pc + 1 ∧ t.mem = s.mem ∧
      step t = .next (afterTrapEntry { t with pendIrq := false, trace := [] } (s.pc + 1) (t.p.toByte &&& 0xEF) 0xFFFE)

/-- 60_exceptions.md R172. -/
def Obligations.NmiNestsOnAnIrqEntry : Prop :=
  ∀ s : State, s.pendReset = false → s.run = .fetching → s.pendNmi = false → s.pendIrq = true → s.p.i = false →
    ∃ t u, step s = .next t ∧ step (t.request .nmi) = .next u ∧ u.sp = s.sp - 6 ∧
      u = afterTrapEntry { t with trace := [] } t.pc (({ s.p with i := true } : Flags).toByte &&& 0xEF) 0xFFFA

/-- 30_encoding.md R59 to R67, with the page-cross clauses of those rules, and who uses zpy (R61) and ind (R65). -/
def Obligations.EffectiveAddresses : Prop :=
  (∀ i : Instr, (i.mode = .zpy → i.mnemonic ∈ [.ldx, .stx]) ∧ (i.mode = .ind → i.mnemonic = .jmp)) ∧
  ∀ (m : AddrMode) (s : State),
    resolve m s = (effectiveAddress m s, after s (pointerReads m s)) ∧
    (pageCrossed m s = true ↔
      (∃ base, m = .abx base ∧ base.toNat / 256 ≠ (base.toNat + s.x.toNat) % 65536 / 256) ∨
      (∃ base, m = .aby base ∧ base.toNat / 256 ≠ (base.toNat + s.y.toNat) % 65536 / 256) ∨
      ∃ d8, m = .izy d8 ∧
        let base := wordFrom (BitVec.ofNat 16 d8.toNat) (BitVec.ofNat 16 ((d8.toNat + 1) % 256)) s
        base.toNat / 256 ≠ (base.toNat + s.y.toNat) % 65536 / 256)

/-- 30_encoding.md R58, R69. -/
def Obligations.OperandByteAndItsAccesses : Prop :=
  ∀ (o : Src) (s : State),
    readSrc o s = (operandByte o s, after s (operandReads o s))

/-- 30_encoding.md R68; R70 for the page-cross output of a branch. -/
def Obligations.BranchTargetIsSignedAndWraps : Prop :=
  ∀ (d8 : Byte) (s : State) (taken : Bool),
    ((branchTarget d8 s).toNat : Int) = (s.pc.toNat + d8.toInt) % 65536 ∧
    (branchPageCrossed taken d8 s = true ↔ taken = true ∧ (branchTarget d8 s).toNat / 256 ≠ s.pc.toNat / 256)

/-- 40_load_store.md R80 to R82. -/
def Obligations.LoadsCopyTheOperand : Prop :=
  Reads .lda [(.imm, 0xA9), (.zp, 0xA5), (.zpx, 0xB5), (.abs, 0xAD),
      (.abx, 0xBD), (.aby, 0xB9), (.izx, 0xA1), (.izy, 0xB1)]
    (fun v s => { s with a := v, p := withNZ s.p v }) ∧
  Reads .ldx [(.imm, 0xA2), (.zp, 0xA6), (.zpy, 0xB6), (.abs, 0xAE), (.aby, 0xBE)]
    (fun v s => { s with x := v, p := withNZ s.p v }) ∧
  Reads .ldy [(.imm, 0xA0), (.zp, 0xA4), (.zpx, 0xB4), (.abs, 0xAC), (.abx, 0xBC)]
    (fun v s => { s with y := v, p := withNZ s.p v })

/-- 40_load_store.md R83 to R85. -/
def Obligations.StoresWriteOneByte : Prop :=
  Stores .sta [(.zp, 0x85), (.zpx, 0x95), (.abs, 0x8D), (.abx, 0x9D), (.aby, 0x99), (.izx, 0x81), (.izy, 0x91)]
    State.a ∧
  Stores .stx [(.zp, 0x86), (.zpy, 0x96), (.abs, 0x8E)] State.x ∧
  Stores .sty [(.zp, 0x84), (.zpx, 0x94), (.abs, 0x8C)] State.y

/-- 41_arithmetic.md R90 for D = 0, with V in the equivalent form the rule gives (the true signed sum). -/
def Obligations.AdcAddsWithCarry : Prop :=
  ReadsInBinaryMode .adc [(.imm, 0x69), (.zp, 0x65), (.zpx, 0x75), (.abs, 0x6D),
      (.abx, 0x7D), (.aby, 0x79), (.izx, 0x61), (.izy, 0x71)]
    (fun m s =>
      let total := s.a.toNat + m.toNat + s.p.c.toNat
      let signed := s.a.toInt + m.toInt + s.p.c.toNat
      let r := BitVec.ofNat 8 (total % 256)
      { s with
        a := r
        p := { withNZ s.p r with c := decide (total > 255), v := decide (signed < -128 ∨ signed > 127) } })

/-- 41_arithmetic.md R92 for D = 0, with C and V in the equivalent forms the rule gives. -/
def Obligations.SbcSubtractsWithBorrow : Prop :=
  ReadsInBinaryMode .sbc [(.imm, 0xE9), (.zp, 0xE5), (.zpx, 0xF5), (.abs, 0xED),
      (.abx, 0xFD), (.aby, 0xF9), (.izx, 0xE1), (.izy, 0xF1)]
    (fun m s =>
      let borrow := 1 - s.p.c.toNat
      let signed := s.a.toInt - m.toInt - borrow
      let r := BitVec.ofNat 8 ((s.a.toNat + 256 + 256 - m.toNat - borrow) % 256)
      { s with
        a := r
        p := { withNZ s.p r with
          c := decide (s.a.toNat ≥ m.toNat + borrow), v := decide (signed < -128 ∨ signed > 127) } })

/-- 60_exceptions.md R162, 41_arithmetic.md R91. The last conjunct is the whole step, which fixes the recorded opcode byte and address. -/
def Obligations.DecimalModeHaltsAdcAndSbc : Prop :=
  (∀ (i : Instr) (s : State), i.mnemonic = .adc ∨ i.mnemonic = .sbc → s.p.d = true →
    ∃ o, i.operand = .src o ∧
      exec i s = .next { after s (operandReads o s) with
        run := .halted
        fault := some { kind := .decimalModeUnsupported, opcode := opcodeOf i,
                        address := s.pc - BitVec.ofNat 16 i.length } }) ∧
  (∀ (i : Instr) (s t : State), (i.mnemonic ≠ .adc ∧ i.mnemonic ≠ .sbc) ∨ s.p.d = false → exec i s = .next t →
    t.run = s.run ∧ t.fault = s.fault) ∧
  ∀ (s : State) (i : Instr) (rest : List Byte), s.Ready → decode (bytesAtPc s) = .ok i rest →
    i.mnemonic = .adc ∨ i.mnemonic = .sbc → s.p.d = true →
    ∃ t, step s = .next t ∧ t.run = .halted ∧
      t.fault = some { kind := .decimalModeUnsupported, opcode := s.answer s.pc, address := s.pc } ∧
      t.pc = s.pc + BitVec.ofNat 16 i.length ∧ t.a = s.a ∧ t.x = s.x ∧ t.y = s.y ∧ t.sp = s.sp ∧ t.p = s.p ∧
      t.mem = s.mem

/-- 41_arithmetic.md R93. -/
def Obligations.SbcUndoesAdc : Prop :=
  ∀ (i j : Instr) (o q : Src) (s t u : State), i.mnemonic = .adc → j.mnemonic = .sbc →
    i.operand = .src o → j.operand = .src q → s.p.d = false → s.p.c = false → exec i s = .next t →
    operandByte q t = operandByte o s → exec j { t with p := { t.p with c := true } } = .next u →
    t.a = BitVec.ofNat 8 ((s.a.toNat + (operandByte o s).toNat) % 256) ∧ u.a = s.a

/-- 42_logic.md R95 to R97. -/
def Obligations.LogicOperations : Prop :=
  Reads .and [(.imm, 0x29), (.zp, 0x25), (.zpx, 0x35), (.abs, 0x2D),
      (.abx, 0x3D), (.aby, 0x39), (.izx, 0x21), (.izy, 0x31)]
    (fun m s => { s with a := s.a &&& m, p := withNZ s.p (s.a &&& m) }) ∧
  Reads .ora [(.imm, 0x09), (.zp, 0x05), (.zpx, 0x15), (.abs, 0x0D),
      (.abx, 0x1D), (.aby, 0x19), (.izx, 0x01), (.izy, 0x11)]
    (fun m s => { s with a := s.a ||| m, p := withNZ s.p (s.a ||| m) }) ∧
  Reads .eor [(.imm, 0x49), (.zp, 0x45), (.zpx, 0x55), (.abs, 0x4D),
      (.abx, 0x5D), (.aby, 0x59), (.izx, 0x41), (.izy, 0x51)]
    (fun m s => { s with a := s.a ^^^ m, p := withNZ s.p (s.a ^^^ m) })

/-- 42_logic.md R98. -/
def Obligations.BitOnlyTests : Prop :=
  Reads .bit [(.zp, 0x24), (.abs, 0x2C)]
    (fun m s => { s with
      p := { s.p with
        z := decide ((s.a &&& m).toNat = 0), n := decide (m.toNat ≥ 128), v := decide (m.toNat % 128 ≥ 64) } })

/-- 43_shift_rotate.md R100 to R104, with each shift as arithmetic. -/
def Obligations.ShiftsAndRotates : Prop :=
  Modifies .asl [(.acc, 0x0A), (.zp, 0x06), (.zpx, 0x16), (.abs, 0x0E), (.abx, 0x1E)]
    (fun v _ => 2 * v.toNat % 256) (fun v _ => decide (v.toNat ≥ 128)) ∧
  Modifies .lsr [(.acc, 0x4A), (.zp, 0x46), (.zpx, 0x56), (.abs, 0x4E), (.abx, 0x5E)]
    (fun v _ => v.toNat / 2) (fun v _ => decide (v.toNat % 2 = 1)) ∧
  Modifies .rol [(.acc, 0x2A), (.zp, 0x26), (.zpx, 0x36), (.abs, 0x2E), (.abx, 0x3E)]
    (fun v c => (2 * v.toNat + c.toNat) % 256) (fun v _ => decide (v.toNat ≥ 128)) ∧
  Modifies .ror [(.acc, 0x6A), (.zp, 0x66), (.zpx, 0x76), (.abs, 0x6E), (.abx, 0x7E)]
    (fun v c => v.toNat / 2 + 128 * c.toNat) (fun v _ => decide (v.toNat % 2 = 1))

/-- 44_inc_dec.md R106 to R111. -/
def Obligations.IncrementsAndDecrements : Prop :=
  Modifies .inc [(.zp, 0xE6), (.zpx, 0xF6), (.abs, 0xEE), (.abx, 0xFE)] (fun v _ => (v.toNat + 1) % 256) (fun _ c => c) ∧
  Modifies .dec [(.zp, 0xC6), (.zpx, 0xD6), (.abs, 0xCE), (.abx, 0xDE)] (fun v _ => (v.toNat + 255) % 256) (fun _ c => c) ∧
  Implied .inx 0xE8 (fun s =>
    let r := BitVec.ofNat 8 ((s.x.toNat + 1) % 256)
    { s with x := r, p := withNZ s.p r }) ∧
  Implied .iny 0xC8 (fun s =>
    let r := BitVec.ofNat 8 ((s.y.toNat + 1) % 256)
    { s with y := r, p := withNZ s.p r }) ∧
  Implied .dex 0xCA (fun s =>
    let r := BitVec.ofNat 8 ((s.x.toNat + 255) % 256)
    { s with x := r, p := withNZ s.p r }) ∧
  Implied .dey 0x88 (fun s =>
    let r := BitVec.ofNat 8 ((s.y.toNat + 255) % 256)
    { s with y := r, p := withNZ s.p r })

/-- 45_compare.md R113 to R115. -/
def Obligations.Compares : Prop :=
  Reads .cmp [(.imm, 0xC9), (.zp, 0xC5), (.zpx, 0xD5), (.abs, 0xCD),
      (.abx, 0xDD), (.aby, 0xD9), (.izx, 0xC1), (.izy, 0xD1)] (fun m s => { s with p := comparedFlags s.a m s.p }) ∧
  Reads .cpx [(.imm, 0xE0), (.zp, 0xE4), (.abs, 0xEC)] (fun m s => { s with p := comparedFlags s.x m s.p }) ∧
  Reads .cpy [(.imm, 0xC0), (.zp, 0xC4), (.abs, 0xCC)] (fun m s => { s with p := comparedFlags s.y m s.p })

/-- 46_branch.md R117 to R125. -/
def Obligations.BranchesTakeOrFallThrough : Prop :=
  Branches .bcc 0x90 (fun p => !p.c) ∧ Branches .bcs 0xB0 (fun p => p.c) ∧
  Branches .beq 0xF0 (fun p => p.z) ∧ Branches .bne 0xD0 (fun p => !p.z) ∧
  Branches .bmi 0x30 (fun p => p.n) ∧ Branches .bpl 0x10 (fun p => !p.n) ∧
  Branches .bvc 0x50 (fun p => !p.v) ∧ Branches .bvs 0x70 (fun p => p.v)

/-- 47_jump_call_interrupt.md R126. -/
def Obligations.JumpsGoToTheAddress : Prop :=
  ∀ (a : Word) (s : State),
    encode (.jmpAbs a) = [0x4C, loByte a, hiByte a] ∧ exec (.jmpAbs a) s = .next { s with pc := a } ∧
    encode (.jmpInd a) = [0x6C, loByte a, hiByte a] ∧
    exec (.jmpInd a) s = .next { after s (pointerReads (.ind a) s) with pc := effectiveAddress (.ind a) s }

/-- 70_reset_and_hazards.md R184, 30_encoding.md R65. -/
def Obligations.IndirectJumpWrapsInItsPage : Prop :=
  ∀ (ptr : Word) (s : State), ∃ t, exec (.jmpInd ptr) s = .next t ∧ loByte t.pc = s.answer ptr ∧
    (loByte ptr ≠ 0xFF → hiByte t.pc = (after s [readOf s ptr]).answer (ptr + 1)) ∧
    (loByte ptr = 0xFF → hiByte t.pc = (after s [readOf s ptr]).answer (ptr - 0xFF)) ∧
    t.run = s.run ∧ t.fault = s.fault ∧ t.p = s.p

/-- 47_jump_call_interrupt.md R127. What it says of a stack page in RAM and of the bytes not written rests on the model's
form for the open parameter `MEM` (log 1). -/
def Obligations.JsrPushesTheReturnAddress : Prop :=
  ∀ (a : Word) (s : State),
    let ret := s.pc - 1
    encode (.jsr a) = [0x20, loByte a, hiByte a] ∧
    ∃ t, exec (.jsr a) s = .next t ∧
      t = { after s [.write (stackLoc s.sp) (hiByte ret), .write (stackLoc (s.sp - 1)) (loByte ret)] with
        pc := a
        sp := s.sp - 2 } ∧
      (StackIsRam s → t.peek (stackLoc s.sp) = hiByte ret ∧ t.peek (stackLoc (s.sp - 1)) = loByte ret) ∧
      ∀ b, b ≠ stackLoc s.sp → b ≠ stackLoc (s.sp - 1) → t.peek b = s.peek b

/-- 47_jump_call_interrupt.md R128. -/
def Obligations.RtsPullsTheReturnAddress : Prop :=
  Implied .rts 0x60 (fun s =>
    let lo := stackLoc (s.sp + 1)
    let hi := stackLoc (s.sp + 2)
    { after s (readsOf [lo, hi] s) with
      pc := BitVec.ofNat 16 (((wordFrom lo hi s).toNat + 1) % 65536)
      sp := s.sp + 2 })

/-- 47_jump_call_interrupt.md R128, the round trip: JSR at a pushes a+2, RTS sets PC to a+3.
The clause for a stack page in RAM rests on the model's form for the open parameter `MEM` (log 1). -/
def Obligations.RtsReturnsAfterTheJsr : Prop :=
  ∀ (a : Word) (s : State), ∃ t, exec (.jsr a) s = .next t ∧
    let ret := s.pc - 1
    ∀ u : State, u.sp = t.sp →
      (pulled 2 u = [loByte ret, hiByte ret] → ∃ w, exec .rts u = .next w ∧ w.pc = s.pc ∧ w.sp = s.sp) ∧
      (StackIsRam s → u.regions = s.regions → (∀ k ∈ [s.sp, s.sp - 1], u.peek (stackLoc k) = t.peek (stackLoc k)) →
        pulled 2 u = [loByte ret, hiByte ret])

/-- 47_jump_call_interrupt.md R129, 60_exceptions.md R169. -/
def Obligations.BrkTakesTheTrap : Prop :=
  Implied .brk 0x00 (fun s => afterTrapEntry s (s.pc + 1) (s.p.toByte ||| 0x10) 0xFFFE)

/-- 47_jump_call_interrupt.md R130. -/
def Obligations.RtiRestoresFlagsAndPc : Prop :=
  Implied .rti 0x40 (fun s =>
    let status := stackLoc (s.sp + 1)
    let lo := stackLoc (s.sp + 2)
    let hi := stackLoc (s.sp + 3)
    let b := s.answer status
    { after s (readsOf [status, lo, hi] s) with
      p := { n := b.getLsbD 7, v := b.getLsbD 6, b := b.getLsbD 4, d := b.getLsbD 3, i := b.getLsbD 2,
             z := b.getLsbD 1, c := b.getLsbD 0 }
      pc := wordFrom lo hi (after s [readOf s status])
      sp := s.sp + 3 })

/-- 47_jump_call_interrupt.md R131; `s.pc` is the address of the BRK plus 1.
The clause for a stack page in RAM rests on the model's form for the open parameter `MEM` (log 1). -/
def Obligations.RtiAfterBrk : Prop :=
  ∀ s : State, ∃ t, exec .brk s = .next t ∧
    let pushed := [s.p.toByte ||| 0x10, loByte (s.pc + 1), hiByte (s.pc + 1)]
    ∀ u : State, u.sp = t.sp →
      (pulled 3 u = pushed → ∃ w, exec .rti u = .next w ∧ w.pc = s.pc + 1 ∧ w.sp = s.sp ∧ w.p = { s.p with b := true }) ∧
      (StackIsRam s → u.regions = s.regions →
        (∀ k ∈ [s.sp, s.sp - 1, s.sp - 2], u.peek (stackLoc k) = t.peek (stackLoc k)) → pulled 3 u = pushed)

/-- 60_exceptions.md R171.
The clause for a stack page in RAM rests on the model's form for the open parameter `MEM` (log 1). -/
def Obligations.RtiAfterAnInterrupt : Prop :=
  ∀ s t : State, t = s.serviceNmi ∨ t = s.serviceIrq →
    let pushed := [s.p.toByte &&& 0xEF, loByte s.pc, hiByte s.pc]
    ∀ u : State, u.sp = t.sp →
      (pulled 3 u = pushed → ∃ w, exec .rti u = .next w ∧ w.pc = s.pc ∧ w.sp = s.sp ∧ w.p = { s.p with b := false }) ∧
      (StackIsRam s → u.regions = s.regions →
        (∀ k ∈ [s.sp, s.sp - 1, s.sp - 2], u.peek (stackLoc k) = t.peek (stackLoc k)) → pulled 3 u = pushed)

/-- 48_stack_transfer.md R132 to R135. -/
def Obligations.StackInstructions : Prop :=
  let pushed (s : State) (v : Byte) : State := { after s [.write (stackLoc s.sp) v] with sp := s.sp - 1 }
  let pulledFrom (s : State) : State := { after s [readOf s (stackLoc (s.sp + 1))] with sp := s.sp + 1 }
  Implied .pha 0x48 (fun s => pushed s s.a) ∧
  Implied .php 0x08 (fun s => pushed s (s.p.toByte ||| 0x30)) ∧
  Implied .pla 0x68 (fun s =>
    let v := s.answer (stackLoc (s.sp + 1))
    { pulledFrom s with a := v, p := withNZ s.p v }) ∧
  Implied .plp 0x28 (fun s =>
    let b := s.answer (stackLoc (s.sp + 1))
    { pulledFrom s with
      p := { n := b.getLsbD 7, v := b.getLsbD 6, b := b.getLsbD 4, d := b.getLsbD 3, i := b.getLsbD 2,
             z := b.getLsbD 1, c := b.getLsbD 0 } })

/-- 48_stack_transfer.md R136 to R141. -/
def Obligations.Transfers : Prop :=
  Implied .tax 0xAA (fun s => { s with x := s.a, p := withNZ s.p s.a }) ∧
  Implied .tay 0xA8 (fun s => { s with y := s.a, p := withNZ s.p s.a }) ∧
  Implied .txa 0x8A (fun s => { s with a := s.x, p := withNZ s.p s.x }) ∧
  Implied .tya 0x98 (fun s => { s with a := s.y, p := withNZ s.p s.y }) ∧
  Implied .tsx 0xBA (fun s => { s with x := s.sp, p := withNZ s.p s.sp }) ∧
  Implied .txs 0x9A (fun s => { s with sp := s.x })

/-- 49_flag_nop.md R143 to R149, R151. -/
def Obligations.FlagInstructionsAndNop : Prop :=
  Implied .sec 0x38 (fun s => { s with p := { s.p with c := true } }) ∧
  Implied .sed 0xF8 (fun s => { s with p := { s.p with d := true } }) ∧
  Implied .sei 0x78 (fun s => { s with p := { s.p with i := true } }) ∧
  Implied .clc 0x18 (fun s => { s with p := { s.p with c := false } }) ∧
  Implied .cld 0xD8 (fun s => { s with p := { s.p with d := false } }) ∧
  Implied .cli 0x58 (fun s => { s with p := { s.p with i := false } }) ∧
  Implied .clv 0xB8 (fun s => { s with p := { s.p with v := false } }) ∧
  Implied .nop 0xEA (fun s => s)

/-- 10_state.md R10, R11, R12: the writers of each register, over every instruction. -/
def Obligations.RegistersHaveOnlyTheirWriters : Prop :=
  ∀ (i : Instr) (s t : State), exec i s = .next t →
    (i.mnemonic ∉ [.lda, .adc, .sbc, .and, .ora, .eor, .pla, .txa, .tya] → i.operand ≠ .acc → t.a = s.a) ∧
    (i.mnemonic ∉ [.ldx, .inx, .dex, .tax, .tsx] → t.x = s.x) ∧
    (i.mnemonic ∉ [.ldy, .iny, .dey, .tay] → t.y = s.y) ∧
    (i.mnemonic ∉ [.pha, .php, .pla, .plp, .jsr, .rts, .brk, .rti, .txs] → t.sp = s.sp) ∧
    (i.mnemonic ∉ [.bcc, .bcs, .beq, .bne, .bmi, .bpl, .bvc, .bvs, .jmp, .jsr, .rts, .brk, .rti] → t.pc = s.pc)

/-- 10_state.md R14, the column of writers, over every instruction. -/
def Obligations.FlagsHaveOnlyTheirWriters : Prop :=
  ∀ (i : Instr) (s t : State), exec i s = .next t →
    let nzWriters : List Mnemonic := [.lda, .ldx, .ldy, .adc, .sbc, .and, .ora, .eor, .asl, .lsr, .rol, .ror, .inc, .dec,
      .inx, .iny, .dex, .dey, .pla, .tax, .tay, .txa, .tya, .tsx, .cmp, .cpx, .cpy, .bit, .plp, .rti]
    (i.mnemonic ∉ nzWriters → t.p.n = s.p.n ∧ t.p.z = s.p.z) ∧
    (i.mnemonic ∉ [.adc, .sbc, .bit, .clv, .plp, .rti] → t.p.v = s.p.v) ∧
    (i.mnemonic ∉ [.plp, .rti] → t.p.b = s.p.b) ∧
    (i.mnemonic ∉ [.sed, .cld, .plp, .rti] → t.p.d = s.p.d) ∧
    (i.mnemonic ∉ [.sei, .cli, .brk, .plp, .rti] → t.p.i = s.p.i) ∧
    (i.mnemonic ∉ [.adc, .sbc, .asl, .lsr, .rol, .ror, .cmp, .cpx, .cpy, .sec, .clc, .plp, .rti] → t.p.c = s.p.c)

/-- 20_memory.md R39: no instruction writes a byte its rule does not list. That what is not written reads as before, and where,
rests on the model's form for the open parameter `MEM`: RAM, ROM or a device behind each address (log 1). -/
def Obligations.OnlyTheStoredBytesChange : Prop :=
  ∀ (i : Instr) (s t : State) (b : Word), exec i s = .next t →
    t.regions = s.regions ∧
    (b ∉ storedAddresses i s → t.peek b = s.peek b ∧ (s.backing b ≠ .device → t.answer b = s.answer b)) ∧
    (s.backing b = .rom → t.answer b = s.answer b)

/-- 20_memory.md R38, R39 over the model's form for the open parameter `MEM` (log 1). -/
def Obligations.TheTraceAccountsForMemory : Prop :=
  ∀ s t : State, step s = .next t →
    ∃ u, replay t.trace s = some u ∧ t.mem = u.mem ∧ t.devices = u.devices ∧ t.regions = s.regions

/-- The invariant of Safety.lean holds after reset (10_state.md R18, R20, R21). -/
def Obligations.ResetMeetsTheInvariant : Prop :=
  State.reset.Inv

/-- 10_state.md R18, R20; 60_exceptions.md R160 to R163. -/
def Obligations.EveryStepKeepsTheInvariant : Prop :=
  ∀ s t : State, s.Inv → step s = .next t → t.Inv

/-- The invariant over every sequence of host actions (60_exceptions.md R164, 20_memory.md R30), not only runs from reset. -/
def Obligations.EveryReachableStateMeetsTheInvariant : Prop :=
  ∀ s t : State, s.Inv → Reaches s t → t.Inv

/-- 10_state.md R14: nothing reads the live B but the snapshot. -/
def Obligations.TheLiveBFlagInfluencesNothing : Prop :=
  ∀ s u t : State, SameButB s u → step s = .next t → ∃ w, step u = .next w ∧ SameButB t w
end

