-- ==== Sys2Proof/Laws/Bytes.lean ====
section
/-! SUPPORT. Words and their bytes; sign and zero extension as numbers; the stack page. -/

namespace Sys2Proof

theorem joinBytes_getLsbD (hi lo : Byte) (k : Nat) :
    (joinBytes hi lo).getLsbD k = if k < 8 then lo.getLsbD k else hi.getLsbD (k - 8) :=
  BitVec.getLsbD_append

@[simp] theorem joinBytes_hiByte_loByte (w : Word) : joinBytes (hiByte w) (loByte w) = w := by
  apply BitVec.eq_of_getLsbD_eq
  intro k hk
  simp only [joinBytes_getLsbD, hiByte, loByte, BitVec.getLsbD_extractLsb']
  by_cases h : k < 8
  · simp [h]
  · have h8 : k - 8 < 8 := by omega
    have e : 8 + (k - 8) = k := by omega
    simp [h, h8, e]

@[simp] theorem loByte_joinBytes (hi lo : Byte) : loByte (joinBytes hi lo) = lo := by
  apply BitVec.eq_of_getLsbD_eq
  intro k hk
  simp only [loByte, BitVec.getLsbD_extractLsb', joinBytes_getLsbD, hk, decide_true, Nat.zero_add, Bool.true_and, if_true]

@[simp] theorem hiByte_joinBytes (hi lo : Byte) : hiByte (joinBytes hi lo) = hi := by
  apply BitVec.eq_of_getLsbD_eq
  intro k hk
  have h8 : ¬ 8 + k < 8 := by omega
  simp only [hiByte, BitVec.getLsbD_extractLsb', joinBytes_getLsbD, hk, h8, decide_true, Nat.add_sub_cancel_left, Bool.true_and, if_false]

theorem joinBytes_toNat (hi lo : Byte) : (joinBytes hi lo).toNat = hi.toNat * 256 + lo.toNat := by
  have h : lo.toNat < 2 ^ 8 := lo.isLt
  rw [joinBytes, BitVec.toNat_append, Nat.shiftLeft_eq, Nat.mul_comm, ← Nat.two_pow_add_eq_or_of_lt h, Nat.mul_comm]

namespace Machine

@[simp] theorem zext16_toNat (b : Byte) : (zext16 b).toNat = b.toNat := by
  have h := b.isLt
  simp only [zext16, BitVec.toNat_setWidth]
  omega

/-- The branch offset as the signed number it stands for (30_encoding.md R68). -/
theorem sext16_eq_signExtend (b : Byte) : sext16 b = b.signExtend 16 := by
  revert b
  decide

/-- Every stack location lies in 0x0100..0x01FF (10_state.md R11). -/
theorem stackAddr_toNat (sp : Byte) : (stackAddr sp).toNat = 0x100 + sp.toNat := by
  have h := sp.isLt
  have hb : Config.stackBase.toNat = 0x100 := rfl
  rw [stackAddr, BitVec.toNat_add, zext16_toNat, hb]
  omega

/-- Distinct SP values designate distinct stack locations. -/
@[simp] theorem stackAddr_inj (u v : Byte) : stackAddr u = stackAddr v ↔ u = v := by
  constructor
  · intro h
    have := congrArg BitVec.toNat h
    rw [stackAddr_toNat, stackAddr_toNat] at this
    exact BitVec.eq_of_toNat_eq (by omega)
  · rintro rfl
    rfl

end Machine

end Sys2Proof
end

