-- ==== Sys2Proof/Laws/Flags.lean ====
section
/-! SUPPORT. What the flag computations write and leave. -/

namespace Sys2Proof.Machine

namespace Flags

variable (p : Flags) (a m r v : Byte)

@[simp] theorem setNZ_n : (p.setNZ v).n = v.getLsbD 7 := rfl
@[simp] theorem setNZ_z : (p.setNZ v).z = (v == 0) := rfl
@[simp] theorem setNZ_v : (p.setNZ v).v = p.v := rfl
@[simp] theorem setNZ_b : (p.setNZ v).b = p.b := rfl
@[simp] theorem setNZ_d : (p.setNZ v).d = p.d := rfl
@[simp] theorem setNZ_i : (p.setNZ v).i = p.i := rfl
@[simp] theorem setNZ_c : (p.setNZ v).c = p.c := rfl

@[simp] theorem afterAdd_b : (p.afterAdd a m).b = p.b := rfl
@[simp] theorem afterAdd_d : (p.afterAdd a m).d = p.d := rfl
@[simp] theorem afterAdd_i : (p.afterAdd a m).i = p.i := rfl

@[simp] theorem afterCompare_v : (p.afterCompare r m).v = p.v := rfl
@[simp] theorem afterCompare_b : (p.afterCompare r m).b = p.b := rfl
@[simp] theorem afterCompare_d : (p.afterCompare r m).d = p.d := rfl
@[simp] theorem afterCompare_i : (p.afterCompare r m).i = p.i := rfl

@[simp] theorem afterBit_b : (p.afterBit a m).b = p.b := rfl
@[simp] theorem afterBit_d : (p.afterBit a m).d = p.d := rfl
@[simp] theorem afterBit_i : (p.afterBit a m).i = p.i := rfl
@[simp] theorem afterBit_c : (p.afterBit a m).c = p.c := rfl

/-- The bits of the status byte, most significant first (10_state.md R13, R15). -/
theorem toByte_bits (k : Nat) :
    p.toByte.getLsbD k = ([p.c, p.z, p.i, p.d, p.b, true, p.v, p.n].getD k false) := by
  match k with
  | 0 | 1 | 2 | 3 | 4 | 5 | 6 | 7 =>
    obtain ⟨n, v, b, d, i, z, c⟩ := p
    revert n v b d i z c
    decide
  | k + 8 => simp [BitVec.getLsbD_of_ge]

end Flags

/-- A change of one byte writes N, Z and perhaps C. -/
structure KeepsVBDI (f : Byte → Flags → Byte × Flags) : Prop where
  v : ∀ x p, (f x p).2.v = p.v
  b : ∀ x p, (f x p).2.b = p.b
  d : ∀ x p, (f x p).2.d = p.d
  i : ∀ x p, (f x p).2.i = p.i

theorem asl_keeps : KeepsVBDI asl := ⟨fun _ _ => rfl, fun _ _ => rfl, fun _ _ => rfl, fun _ _ => rfl⟩
theorem lsr_keeps : KeepsVBDI lsr := ⟨fun _ _ => rfl, fun _ _ => rfl, fun _ _ => rfl, fun _ _ => rfl⟩
theorem rol_keeps : KeepsVBDI rol := ⟨fun _ _ => rfl, fun _ _ => rfl, fun _ _ => rfl, fun _ _ => rfl⟩
theorem ror_keeps : KeepsVBDI ror := ⟨fun _ _ => rfl, fun _ _ => rfl, fun _ _ => rfl, fun _ _ => rfl⟩
theorem inc_keeps : KeepsVBDI inc := ⟨fun _ _ => rfl, fun _ _ => rfl, fun _ _ => rfl, fun _ _ => rfl⟩
theorem dec_keeps : KeepsVBDI dec := ⟨fun _ _ => rfl, fun _ _ => rfl, fun _ _ => rfl, fun _ _ => rfl⟩

end Sys2Proof.Machine
end

