-- ==== Sys2Proof/Laws/Memory.lean ====
section
/-! SUPPORT. The laws of memory as a list: a read after a write, and that every write keeps the canonical form. -/

namespace Sys2Proof.Machine.Memory

theorem readByte_eraseAt_same (m : Memory) (k : Nat) : (m.eraseAt k).readByte k = unlistedByte := by
  induction m with
  | nil => rfl
  | cons c m ih =>
    by_cases h : c.1 = k
    · simpa [eraseAt, h] using ih
    · simpa [eraseAt, h, readByte] using ih

theorem readByte_eraseAt_ne (m : Memory) {k j : Nat} (h : j ≠ k) : (m.eraseAt k).readByte j = m.readByte j := by
  induction m with
  | nil => rfl
  | cons c m ih =>
    by_cases hc : c.1 = k
    · have hj : c.1 ≠ j := fun e => h (e.symm.trans hc)
      simpa [eraseAt, hc, readByte, hj, h.symm] using ih
    · by_cases hj : c.1 = j
      · simp [eraseAt, readByte, hj, h]
      · simpa [eraseAt, hc, readByte, hj] using ih

theorem readByte_insertAt_same (m : Memory) (k : Nat) (v : Byte) (h : ∀ c ∈ m, c.1 ≠ k) :
    (m.insertAt k v).readByte k = v := by
  induction m with
  | nil => simp [insertAt, readByte]
  | cons c m ih =>
    by_cases hk : k < c.1
    · simp [insertAt, hk, readByte]
    · have hc := h c (by simp)
      simpa [insertAt, hk, readByte, hc] using ih fun d hd => h d (by simp [hd])

theorem readByte_insertAt_ne (m : Memory) {k j : Nat} (v : Byte) (h : j ≠ k) :
    (m.insertAt k v).readByte j = m.readByte j := by
  induction m with
  | nil => simp [insertAt, readByte, h.symm]
  | cons c m ih =>
    by_cases hk : k < c.1
    · simp [insertAt, hk, readByte, h.symm]
    · by_cases hj : c.1 = j
      · have hkj : ¬ k < j := hj ▸ hk
        simp [insertAt, readByte, hj, hkj]
      · simpa [insertAt, hk, readByte, hj] using ih

theorem eraseAt_ne (m : Memory) (k : Nat) : ∀ c ∈ m.eraseAt k, c.1 ≠ k := by
  intro c hc
  simpa [eraseAt] using (List.mem_filter.mp hc).2

/-- A byte written is the byte read. -/
@[simp] theorem readByte_writeByte_same (m : Memory) (k : Nat) (v : Byte) : (m.writeByte k v).readByte k = v := by
  by_cases h : v = unlistedByte
  · simp [writeByte, h, readByte_eraseAt_same]
  · simpa [writeByte, h] using readByte_insertAt_same _ k v (eraseAt_ne m k)

/-- A write leaves every other byte alone. -/
theorem readByte_writeByte_ne (m : Memory) {k j : Nat} (v : Byte) (h : j ≠ k) :
    (m.writeByte k v).readByte j = m.readByte j := by
  by_cases hv : v = unlistedByte
  · simp [writeByte, hv, readByte_eraseAt_ne m h]
  · simp [writeByte, hv, readByte_insertAt_ne _ v h, readByte_eraseAt_ne m h]

theorem wf_nil : wf [] := by simp [wf]

theorem wf_eraseAt {m : Memory} (h : m.wf) (k : Nat) : (m.eraseAt k).wf :=
  ⟨h.1.filter _, fun c hc => h.2 c (List.mem_filter.mp hc).1⟩

theorem mem_insertAt {m : Memory} {k : Nat} {v : Byte} {c : Host.Cell} :
    c ∈ m.insertAt k v ↔ c = (k, v) ∨ c ∈ m := by
  induction m with
  | nil => simp [insertAt]
  | cons d m ih =>
    by_cases hk : k < d.1
    · simp [insertAt, hk]
    · simp only [insertAt, hk, if_false, List.mem_cons, ih]
      tauto

theorem wf_insertAt {m : Memory} (h : m.wf) {k : Nat} {v : Byte} (hk : k < 65536) (hv : v ≠ unlistedByte)
    (hm : ∀ c ∈ m, c.1 ≠ k) : (m.insertAt k v).wf := by
  refine ⟨?_, ?_⟩
  · have hp := h.1
    clear h
    induction m with
    | nil => simp [insertAt]
    | cons d m ih =>
      obtain ⟨hd, hp⟩ := List.pairwise_cons.mp hp
      by_cases hlt : k < d.1
      · simp only [insertAt, hlt, if_true, List.pairwise_cons]
        refine ⟨?_, hd, hp⟩
        intro c hc
        rcases List.mem_cons.mp hc with rfl | hc
        · exact hlt
        · exact hlt.trans (hd c hc)
      · simp only [insertAt, hlt, if_false, List.pairwise_cons]
        refine ⟨?_, ih (fun c hc => hm c (by simp [hc])) hp⟩
        intro c hc
        rcases mem_insertAt.mp hc with rfl | hc
        · have := hm d (by simp)
          simp only
          omega
        · exact hd c hc
  · intro c hc
    rcases mem_insertAt.mp hc with rfl | hc
    · exact ⟨hk, hv⟩
    · exact h.2 c hc

/-- Every write of a byte keeps the canonical form. -/
theorem wf_writeByte {m : Memory} (h : m.wf) (a : Word) (v : Byte) : (m.writeByte a.toNat v).wf := by
  have ha : a.toNat < 65536 := a.isLt
  by_cases hv : v = unlistedByte
  · simpa only [writeByte, hv, if_true] using wf_eraseAt h _
  · simpa only [writeByte, hv, if_false] using wf_insertAt (wf_eraseAt h _) ha hv (eraseAt_ne m _)

theorem wf_reset : State.reset.mem.wf := wf_nil

end Sys2Proof.Machine.Memory
end

