-- ==== Sys2Proof/Laws/State.lean ====
section
/-! SUPPORT. One lemma per field per update of State, each true by rfl, so that no proof unfolds a record update. -/

namespace Sys2Proof.Machine.State

variable (s : State)

@[simp] theorem setA_a (v : Byte) : (s.setA v).a = v := rfl
@[simp] theorem setA_x (v : Byte) : (s.setA v).x = s.x := rfl
@[simp] theorem setA_y (v : Byte) : (s.setA v).y = s.y := rfl
@[simp] theorem setA_sp (v : Byte) : (s.setA v).sp = s.sp := rfl
@[simp] theorem setA_pc (v : Byte) : (s.setA v).pc = s.pc := rfl
@[simp] theorem setA_p (v : Byte) : (s.setA v).p = s.p := rfl
@[simp] theorem setA_run (v : Byte) : (s.setA v).run = s.run := rfl
@[simp] theorem setA_pendReset (v : Byte) : (s.setA v).pendReset = s.pendReset := rfl
@[simp] theorem setA_pendNmi (v : Byte) : (s.setA v).pendNmi = s.pendNmi := rfl
@[simp] theorem setA_pendIrq (v : Byte) : (s.setA v).pendIrq = s.pendIrq := rfl
@[simp] theorem setA_fault (v : Byte) : (s.setA v).fault = s.fault := rfl
@[simp] theorem setA_mem (v : Byte) : (s.setA v).mem = s.mem := rfl
@[simp] theorem setA_regions (v : Byte) : (s.setA v).regions = s.regions := rfl
@[simp] theorem setA_devices (v : Byte) : (s.setA v).devices = s.devices := rfl
@[simp] theorem setA_trace (v : Byte) : (s.setA v).trace = s.trace := rfl
@[simp] theorem setA_resetDraws (v : Byte) : (s.setA v).resetDraws = s.resetDraws := rfl

@[simp] theorem setX_a (v : Byte) : (s.setX v).a = s.a := rfl
@[simp] theorem setX_x (v : Byte) : (s.setX v).x = v := rfl
@[simp] theorem setX_y (v : Byte) : (s.setX v).y = s.y := rfl
@[simp] theorem setX_sp (v : Byte) : (s.setX v).sp = s.sp := rfl
@[simp] theorem setX_pc (v : Byte) : (s.setX v).pc = s.pc := rfl
@[simp] theorem setX_p (v : Byte) : (s.setX v).p = s.p := rfl
@[simp] theorem setX_run (v : Byte) : (s.setX v).run = s.run := rfl
@[simp] theorem setX_pendReset (v : Byte) : (s.setX v).pendReset = s.pendReset := rfl
@[simp] theorem setX_pendNmi (v : Byte) : (s.setX v).pendNmi = s.pendNmi := rfl
@[simp] theorem setX_pendIrq (v : Byte) : (s.setX v).pendIrq = s.pendIrq := rfl
@[simp] theorem setX_fault (v : Byte) : (s.setX v).fault = s.fault := rfl
@[simp] theorem setX_mem (v : Byte) : (s.setX v).mem = s.mem := rfl
@[simp] theorem setX_regions (v : Byte) : (s.setX v).regions = s.regions := rfl
@[simp] theorem setX_devices (v : Byte) : (s.setX v).devices = s.devices := rfl
@[simp] theorem setX_trace (v : Byte) : (s.setX v).trace = s.trace := rfl
@[simp] theorem setX_resetDraws (v : Byte) : (s.setX v).resetDraws = s.resetDraws := rfl

@[simp] theorem setY_a (v : Byte) : (s.setY v).a = s.a := rfl
@[simp] theorem setY_x (v : Byte) : (s.setY v).x = s.x := rfl
@[simp] theorem setY_y (v : Byte) : (s.setY v).y = v := rfl
@[simp] theorem setY_sp (v : Byte) : (s.setY v).sp = s.sp := rfl
@[simp] theorem setY_pc (v : Byte) : (s.setY v).pc = s.pc := rfl
@[simp] theorem setY_p (v : Byte) : (s.setY v).p = s.p := rfl
@[simp] theorem setY_run (v : Byte) : (s.setY v).run = s.run := rfl
@[simp] theorem setY_pendReset (v : Byte) : (s.setY v).pendReset = s.pendReset := rfl
@[simp] theorem setY_pendNmi (v : Byte) : (s.setY v).pendNmi = s.pendNmi := rfl
@[simp] theorem setY_pendIrq (v : Byte) : (s.setY v).pendIrq = s.pendIrq := rfl
@[simp] theorem setY_fault (v : Byte) : (s.setY v).fault = s.fault := rfl
@[simp] theorem setY_mem (v : Byte) : (s.setY v).mem = s.mem := rfl
@[simp] theorem setY_regions (v : Byte) : (s.setY v).regions = s.regions := rfl
@[simp] theorem setY_devices (v : Byte) : (s.setY v).devices = s.devices := rfl
@[simp] theorem setY_trace (v : Byte) : (s.setY v).trace = s.trace := rfl
@[simp] theorem setY_resetDraws (v : Byte) : (s.setY v).resetDraws = s.resetDraws := rfl

@[simp] theorem setSp_a (v : Byte) : (s.setSp v).a = s.a := rfl
@[simp] theorem setSp_x (v : Byte) : (s.setSp v).x = s.x := rfl
@[simp] theorem setSp_y (v : Byte) : (s.setSp v).y = s.y := rfl
@[simp] theorem setSp_sp (v : Byte) : (s.setSp v).sp = v := rfl
@[simp] theorem setSp_pc (v : Byte) : (s.setSp v).pc = s.pc := rfl
@[simp] theorem setSp_p (v : Byte) : (s.setSp v).p = s.p := rfl
@[simp] theorem setSp_run (v : Byte) : (s.setSp v).run = s.run := rfl
@[simp] theorem setSp_pendReset (v : Byte) : (s.setSp v).pendReset = s.pendReset := rfl
@[simp] theorem setSp_pendNmi (v : Byte) : (s.setSp v).pendNmi = s.pendNmi := rfl
@[simp] theorem setSp_pendIrq (v : Byte) : (s.setSp v).pendIrq = s.pendIrq := rfl
@[simp] theorem setSp_fault (v : Byte) : (s.setSp v).fault = s.fault := rfl
@[simp] theorem setSp_mem (v : Byte) : (s.setSp v).mem = s.mem := rfl
@[simp] theorem setSp_regions (v : Byte) : (s.setSp v).regions = s.regions := rfl
@[simp] theorem setSp_devices (v : Byte) : (s.setSp v).devices = s.devices := rfl
@[simp] theorem setSp_trace (v : Byte) : (s.setSp v).trace = s.trace := rfl
@[simp] theorem setSp_resetDraws (v : Byte) : (s.setSp v).resetDraws = s.resetDraws := rfl

@[simp] theorem setPc_a (v : Word) : (s.setPc v).a = s.a := rfl
@[simp] theorem setPc_x (v : Word) : (s.setPc v).x = s.x := rfl
@[simp] theorem setPc_y (v : Word) : (s.setPc v).y = s.y := rfl
@[simp] theorem setPc_sp (v : Word) : (s.setPc v).sp = s.sp := rfl
@[simp] theorem setPc_pc (v : Word) : (s.setPc v).pc = v := rfl
@[simp] theorem setPc_p (v : Word) : (s.setPc v).p = s.p := rfl
@[simp] theorem setPc_run (v : Word) : (s.setPc v).run = s.run := rfl
@[simp] theorem setPc_pendReset (v : Word) : (s.setPc v).pendReset = s.pendReset := rfl
@[simp] theorem setPc_pendNmi (v : Word) : (s.setPc v).pendNmi = s.pendNmi := rfl
@[simp] theorem setPc_pendIrq (v : Word) : (s.setPc v).pendIrq = s.pendIrq := rfl
@[simp] theorem setPc_fault (v : Word) : (s.setPc v).fault = s.fault := rfl
@[simp] theorem setPc_mem (v : Word) : (s.setPc v).mem = s.mem := rfl
@[simp] theorem setPc_regions (v : Word) : (s.setPc v).regions = s.regions := rfl
@[simp] theorem setPc_devices (v : Word) : (s.setPc v).devices = s.devices := rfl
@[simp] theorem setPc_trace (v : Word) : (s.setPc v).trace = s.trace := rfl
@[simp] theorem setPc_resetDraws (v : Word) : (s.setPc v).resetDraws = s.resetDraws := rfl

@[simp] theorem setP_a (v : Flags) : (s.setP v).a = s.a := rfl
@[simp] theorem setP_x (v : Flags) : (s.setP v).x = s.x := rfl
@[simp] theorem setP_y (v : Flags) : (s.setP v).y = s.y := rfl
@[simp] theorem setP_sp (v : Flags) : (s.setP v).sp = s.sp := rfl
@[simp] theorem setP_pc (v : Flags) : (s.setP v).pc = s.pc := rfl
@[simp] theorem setP_p (v : Flags) : (s.setP v).p = v := rfl
@[simp] theorem setP_run (v : Flags) : (s.setP v).run = s.run := rfl
@[simp] theorem setP_pendReset (v : Flags) : (s.setP v).pendReset = s.pendReset := rfl
@[simp] theorem setP_pendNmi (v : Flags) : (s.setP v).pendNmi = s.pendNmi := rfl
@[simp] theorem setP_pendIrq (v : Flags) : (s.setP v).pendIrq = s.pendIrq := rfl
@[simp] theorem setP_fault (v : Flags) : (s.setP v).fault = s.fault := rfl
@[simp] theorem setP_mem (v : Flags) : (s.setP v).mem = s.mem := rfl
@[simp] theorem setP_regions (v : Flags) : (s.setP v).regions = s.regions := rfl
@[simp] theorem setP_devices (v : Flags) : (s.setP v).devices = s.devices := rfl
@[simp] theorem setP_trace (v : Flags) : (s.setP v).trace = s.trace := rfl
@[simp] theorem setP_resetDraws (v : Flags) : (s.setP v).resetDraws = s.resetDraws := rfl

@[simp] theorem setRun_a (v : RunState) : (s.setRun v).a = s.a := rfl
@[simp] theorem setRun_x (v : RunState) : (s.setRun v).x = s.x := rfl
@[simp] theorem setRun_y (v : RunState) : (s.setRun v).y = s.y := rfl
@[simp] theorem setRun_sp (v : RunState) : (s.setRun v).sp = s.sp := rfl
@[simp] theorem setRun_pc (v : RunState) : (s.setRun v).pc = s.pc := rfl
@[simp] theorem setRun_p (v : RunState) : (s.setRun v).p = s.p := rfl
@[simp] theorem setRun_run (v : RunState) : (s.setRun v).run = v := rfl
@[simp] theorem setRun_pendReset (v : RunState) : (s.setRun v).pendReset = s.pendReset := rfl
@[simp] theorem setRun_pendNmi (v : RunState) : (s.setRun v).pendNmi = s.pendNmi := rfl
@[simp] theorem setRun_pendIrq (v : RunState) : (s.setRun v).pendIrq = s.pendIrq := rfl
@[simp] theorem setRun_fault (v : RunState) : (s.setRun v).fault = s.fault := rfl
@[simp] theorem setRun_mem (v : RunState) : (s.setRun v).mem = s.mem := rfl
@[simp] theorem setRun_regions (v : RunState) : (s.setRun v).regions = s.regions := rfl
@[simp] theorem setRun_devices (v : RunState) : (s.setRun v).devices = s.devices := rfl
@[simp] theorem setRun_trace (v : RunState) : (s.setRun v).trace = s.trace := rfl
@[simp] theorem setRun_resetDraws (v : RunState) : (s.setRun v).resetDraws = s.resetDraws := rfl

@[simp] theorem setPendReset_a (v : Bool) : (s.setPendReset v).a = s.a := rfl
@[simp] theorem setPendReset_x (v : Bool) : (s.setPendReset v).x = s.x := rfl
@[simp] theorem setPendReset_y (v : Bool) : (s.setPendReset v).y = s.y := rfl
@[simp] theorem setPendReset_sp (v : Bool) : (s.setPendReset v).sp = s.sp := rfl
@[simp] theorem setPendReset_pc (v : Bool) : (s.setPendReset v).pc = s.pc := rfl
@[simp] theorem setPendReset_p (v : Bool) : (s.setPendReset v).p = s.p := rfl
@[simp] theorem setPendReset_run (v : Bool) : (s.setPendReset v).run = s.run := rfl
@[simp] theorem setPendReset_pendReset (v : Bool) : (s.setPendReset v).pendReset = v := rfl
@[simp] theorem setPendReset_pendNmi (v : Bool) : (s.setPendReset v).pendNmi = s.pendNmi := rfl
@[simp] theorem setPendReset_pendIrq (v : Bool) : (s.setPendReset v).pendIrq = s.pendIrq := rfl
@[simp] theorem setPendReset_fault (v : Bool) : (s.setPendReset v).fault = s.fault := rfl
@[simp] theorem setPendReset_mem (v : Bool) : (s.setPendReset v).mem = s.mem := rfl
@[simp] theorem setPendReset_regions (v : Bool) : (s.setPendReset v).regions = s.regions := rfl
@[simp] theorem setPendReset_devices (v : Bool) : (s.setPendReset v).devices = s.devices := rfl
@[simp] theorem setPendReset_trace (v : Bool) : (s.setPendReset v).trace = s.trace := rfl
@[simp] theorem setPendReset_resetDraws (v : Bool) : (s.setPendReset v).resetDraws = s.resetDraws := rfl

@[simp] theorem setPendNmi_a (v : Bool) : (s.setPendNmi v).a = s.a := rfl
@[simp] theorem setPendNmi_x (v : Bool) : (s.setPendNmi v).x = s.x := rfl
@[simp] theorem setPendNmi_y (v : Bool) : (s.setPendNmi v).y = s.y := rfl
@[simp] theorem setPendNmi_sp (v : Bool) : (s.setPendNmi v).sp = s.sp := rfl
@[simp] theorem setPendNmi_pc (v : Bool) : (s.setPendNmi v).pc = s.pc := rfl
@[simp] theorem setPendNmi_p (v : Bool) : (s.setPendNmi v).p = s.p := rfl
@[simp] theorem setPendNmi_run (v : Bool) : (s.setPendNmi v).run = s.run := rfl
@[simp] theorem setPendNmi_pendReset (v : Bool) : (s.setPendNmi v).pendReset = s.pendReset := rfl
@[simp] theorem setPendNmi_pendNmi (v : Bool) : (s.setPendNmi v).pendNmi = v := rfl
@[simp] theorem setPendNmi_pendIrq (v : Bool) : (s.setPendNmi v).pendIrq = s.pendIrq := rfl
@[simp] theorem setPendNmi_fault (v : Bool) : (s.setPendNmi v).fault = s.fault := rfl
@[simp] theorem setPendNmi_mem (v : Bool) : (s.setPendNmi v).mem = s.mem := rfl
@[simp] theorem setPendNmi_regions (v : Bool) : (s.setPendNmi v).regions = s.regions := rfl
@[simp] theorem setPendNmi_devices (v : Bool) : (s.setPendNmi v).devices = s.devices := rfl
@[simp] theorem setPendNmi_trace (v : Bool) : (s.setPendNmi v).trace = s.trace := rfl
@[simp] theorem setPendNmi_resetDraws (v : Bool) : (s.setPendNmi v).resetDraws = s.resetDraws := rfl

@[simp] theorem setPendIrq_a (v : Bool) : (s.setPendIrq v).a = s.a := rfl
@[simp] theorem setPendIrq_x (v : Bool) : (s.setPendIrq v).x = s.x := rfl
@[simp] theorem setPendIrq_y (v : Bool) : (s.setPendIrq v).y = s.y := rfl
@[simp] theorem setPendIrq_sp (v : Bool) : (s.setPendIrq v).sp = s.sp := rfl
@[simp] theorem setPendIrq_pc (v : Bool) : (s.setPendIrq v).pc = s.pc := rfl
@[simp] theorem setPendIrq_p (v : Bool) : (s.setPendIrq v).p = s.p := rfl
@[simp] theorem setPendIrq_run (v : Bool) : (s.setPendIrq v).run = s.run := rfl
@[simp] theorem setPendIrq_pendReset (v : Bool) : (s.setPendIrq v).pendReset = s.pendReset := rfl
@[simp] theorem setPendIrq_pendNmi (v : Bool) : (s.setPendIrq v).pendNmi = s.pendNmi := rfl
@[simp] theorem setPendIrq_pendIrq (v : Bool) : (s.setPendIrq v).pendIrq = v := rfl
@[simp] theorem setPendIrq_fault (v : Bool) : (s.setPendIrq v).fault = s.fault := rfl
@[simp] theorem setPendIrq_mem (v : Bool) : (s.setPendIrq v).mem = s.mem := rfl
@[simp] theorem setPendIrq_regions (v : Bool) : (s.setPendIrq v).regions = s.regions := rfl
@[simp] theorem setPendIrq_devices (v : Bool) : (s.setPendIrq v).devices = s.devices := rfl
@[simp] theorem setPendIrq_trace (v : Bool) : (s.setPendIrq v).trace = s.trace := rfl
@[simp] theorem setPendIrq_resetDraws (v : Bool) : (s.setPendIrq v).resetDraws = s.resetDraws := rfl

@[simp] theorem setFault_a (v : Option FaultRecord) : (s.setFault v).a = s.a := rfl
@[simp] theorem setFault_x (v : Option FaultRecord) : (s.setFault v).x = s.x := rfl
@[simp] theorem setFault_y (v : Option FaultRecord) : (s.setFault v).y = s.y := rfl
@[simp] theorem setFault_sp (v : Option FaultRecord) : (s.setFault v).sp = s.sp := rfl
@[simp] theorem setFault_pc (v : Option FaultRecord) : (s.setFault v).pc = s.pc := rfl
@[simp] theorem setFault_p (v : Option FaultRecord) : (s.setFault v).p = s.p := rfl
@[simp] theorem setFault_run (v : Option FaultRecord) : (s.setFault v).run = s.run := rfl
@[simp] theorem setFault_pendReset (v : Option FaultRecord) : (s.setFault v).pendReset = s.pendReset := rfl
@[simp] theorem setFault_pendNmi (v : Option FaultRecord) : (s.setFault v).pendNmi = s.pendNmi := rfl
@[simp] theorem setFault_pendIrq (v : Option FaultRecord) : (s.setFault v).pendIrq = s.pendIrq := rfl
@[simp] theorem setFault_fault (v : Option FaultRecord) : (s.setFault v).fault = v := rfl
@[simp] theorem setFault_mem (v : Option FaultRecord) : (s.setFault v).mem = s.mem := rfl
@[simp] theorem setFault_regions (v : Option FaultRecord) : (s.setFault v).regions = s.regions := rfl
@[simp] theorem setFault_devices (v : Option FaultRecord) : (s.setFault v).devices = s.devices := rfl
@[simp] theorem setFault_trace (v : Option FaultRecord) : (s.setFault v).trace = s.trace := rfl
@[simp] theorem setFault_resetDraws (v : Option FaultRecord) : (s.setFault v).resetDraws = s.resetDraws := rfl

@[simp] theorem setMem_a (v : Memory) : (s.setMem v).a = s.a := rfl
@[simp] theorem setMem_x (v : Memory) : (s.setMem v).x = s.x := rfl
@[simp] theorem setMem_y (v : Memory) : (s.setMem v).y = s.y := rfl
@[simp] theorem setMem_sp (v : Memory) : (s.setMem v).sp = s.sp := rfl
@[simp] theorem setMem_pc (v : Memory) : (s.setMem v).pc = s.pc := rfl
@[simp] theorem setMem_p (v : Memory) : (s.setMem v).p = s.p := rfl
@[simp] theorem setMem_run (v : Memory) : (s.setMem v).run = s.run := rfl
@[simp] theorem setMem_pendReset (v : Memory) : (s.setMem v).pendReset = s.pendReset := rfl
@[simp] theorem setMem_pendNmi (v : Memory) : (s.setMem v).pendNmi = s.pendNmi := rfl
@[simp] theorem setMem_pendIrq (v : Memory) : (s.setMem v).pendIrq = s.pendIrq := rfl
@[simp] theorem setMem_fault (v : Memory) : (s.setMem v).fault = s.fault := rfl
@[simp] theorem setMem_mem (v : Memory) : (s.setMem v).mem = v := rfl
@[simp] theorem setMem_regions (v : Memory) : (s.setMem v).regions = s.regions := rfl
@[simp] theorem setMem_devices (v : Memory) : (s.setMem v).devices = s.devices := rfl
@[simp] theorem setMem_trace (v : Memory) : (s.setMem v).trace = s.trace := rfl
@[simp] theorem setMem_resetDraws (v : Memory) : (s.setMem v).resetDraws = s.resetDraws := rfl

@[simp] theorem setRegions_a (v : List Region) : (s.setRegions v).a = s.a := rfl
@[simp] theorem setRegions_x (v : List Region) : (s.setRegions v).x = s.x := rfl
@[simp] theorem setRegions_y (v : List Region) : (s.setRegions v).y = s.y := rfl
@[simp] theorem setRegions_sp (v : List Region) : (s.setRegions v).sp = s.sp := rfl
@[simp] theorem setRegions_pc (v : List Region) : (s.setRegions v).pc = s.pc := rfl
@[simp] theorem setRegions_p (v : List Region) : (s.setRegions v).p = s.p := rfl
@[simp] theorem setRegions_run (v : List Region) : (s.setRegions v).run = s.run := rfl
@[simp] theorem setRegions_pendReset (v : List Region) : (s.setRegions v).pendReset = s.pendReset := rfl
@[simp] theorem setRegions_pendNmi (v : List Region) : (s.setRegions v).pendNmi = s.pendNmi := rfl
@[simp] theorem setRegions_pendIrq (v : List Region) : (s.setRegions v).pendIrq = s.pendIrq := rfl
@[simp] theorem setRegions_fault (v : List Region) : (s.setRegions v).fault = s.fault := rfl
@[simp] theorem setRegions_mem (v : List Region) : (s.setRegions v).mem = s.mem := rfl
@[simp] theorem setRegions_regions (v : List Region) : (s.setRegions v).regions = v := rfl
@[simp] theorem setRegions_devices (v : List Region) : (s.setRegions v).devices = s.devices := rfl
@[simp] theorem setRegions_trace (v : List Region) : (s.setRegions v).trace = s.trace := rfl
@[simp] theorem setRegions_resetDraws (v : List Region) : (s.setRegions v).resetDraws = s.resetDraws := rfl

@[simp] theorem setDevices_a (v : Nat) : (s.setDevices v).a = s.a := rfl
@[simp] theorem setDevices_x (v : Nat) : (s.setDevices v).x = s.x := rfl
@[simp] theorem setDevices_y (v : Nat) : (s.setDevices v).y = s.y := rfl
@[simp] theorem setDevices_sp (v : Nat) : (s.setDevices v).sp = s.sp := rfl
@[simp] theorem setDevices_pc (v : Nat) : (s.setDevices v).pc = s.pc := rfl
@[simp] theorem setDevices_p (v : Nat) : (s.setDevices v).p = s.p := rfl
@[simp] theorem setDevices_run (v : Nat) : (s.setDevices v).run = s.run := rfl
@[simp] theorem setDevices_pendReset (v : Nat) : (s.setDevices v).pendReset = s.pendReset := rfl
@[simp] theorem setDevices_pendNmi (v : Nat) : (s.setDevices v).pendNmi = s.pendNmi := rfl
@[simp] theorem setDevices_pendIrq (v : Nat) : (s.setDevices v).pendIrq = s.pendIrq := rfl
@[simp] theorem setDevices_fault (v : Nat) : (s.setDevices v).fault = s.fault := rfl
@[simp] theorem setDevices_mem (v : Nat) : (s.setDevices v).mem = s.mem := rfl
@[simp] theorem setDevices_regions (v : Nat) : (s.setDevices v).regions = s.regions := rfl
@[simp] theorem setDevices_devices (v : Nat) : (s.setDevices v).devices = v := rfl
@[simp] theorem setDevices_trace (v : Nat) : (s.setDevices v).trace = s.trace := rfl
@[simp] theorem setDevices_resetDraws (v : Nat) : (s.setDevices v).resetDraws = s.resetDraws := rfl

@[simp] theorem setTrace_a (v : List Access) : (s.setTrace v).a = s.a := rfl
@[simp] theorem setTrace_x (v : List Access) : (s.setTrace v).x = s.x := rfl
@[simp] theorem setTrace_y (v : List Access) : (s.setTrace v).y = s.y := rfl
@[simp] theorem setTrace_sp (v : List Access) : (s.setTrace v).sp = s.sp := rfl
@[simp] theorem setTrace_pc (v : List Access) : (s.setTrace v).pc = s.pc := rfl
@[simp] theorem setTrace_p (v : List Access) : (s.setTrace v).p = s.p := rfl
@[simp] theorem setTrace_run (v : List Access) : (s.setTrace v).run = s.run := rfl
@[simp] theorem setTrace_pendReset (v : List Access) : (s.setTrace v).pendReset = s.pendReset := rfl
@[simp] theorem setTrace_pendNmi (v : List Access) : (s.setTrace v).pendNmi = s.pendNmi := rfl
@[simp] theorem setTrace_pendIrq (v : List Access) : (s.setTrace v).pendIrq = s.pendIrq := rfl
@[simp] theorem setTrace_fault (v : List Access) : (s.setTrace v).fault = s.fault := rfl
@[simp] theorem setTrace_mem (v : List Access) : (s.setTrace v).mem = s.mem := rfl
@[simp] theorem setTrace_regions (v : List Access) : (s.setTrace v).regions = s.regions := rfl
@[simp] theorem setTrace_devices (v : List Access) : (s.setTrace v).devices = s.devices := rfl
@[simp] theorem setTrace_trace (v : List Access) : (s.setTrace v).trace = v := rfl
@[simp] theorem setTrace_resetDraws (v : List Access) : (s.setTrace v).resetDraws = s.resetDraws := rfl

@[simp] theorem setResetDraws_a (v : Nat) : (s.setResetDraws v).a = s.a := rfl
@[simp] theorem setResetDraws_x (v : Nat) : (s.setResetDraws v).x = s.x := rfl
@[simp] theorem setResetDraws_y (v : Nat) : (s.setResetDraws v).y = s.y := rfl
@[simp] theorem setResetDraws_sp (v : Nat) : (s.setResetDraws v).sp = s.sp := rfl
@[simp] theorem setResetDraws_pc (v : Nat) : (s.setResetDraws v).pc = s.pc := rfl
@[simp] theorem setResetDraws_p (v : Nat) : (s.setResetDraws v).p = s.p := rfl
@[simp] theorem setResetDraws_run (v : Nat) : (s.setResetDraws v).run = s.run := rfl
@[simp] theorem setResetDraws_pendReset (v : Nat) : (s.setResetDraws v).pendReset = s.pendReset := rfl
@[simp] theorem setResetDraws_pendNmi (v : Nat) : (s.setResetDraws v).pendNmi = s.pendNmi := rfl
@[simp] theorem setResetDraws_pendIrq (v : Nat) : (s.setResetDraws v).pendIrq = s.pendIrq := rfl
@[simp] theorem setResetDraws_fault (v : Nat) : (s.setResetDraws v).fault = s.fault := rfl
@[simp] theorem setResetDraws_mem (v : Nat) : (s.setResetDraws v).mem = s.mem := rfl
@[simp] theorem setResetDraws_regions (v : Nat) : (s.setResetDraws v).regions = s.regions := rfl
@[simp] theorem setResetDraws_devices (v : Nat) : (s.setResetDraws v).devices = s.devices := rfl
@[simp] theorem setResetDraws_trace (v : Nat) : (s.setResetDraws v).trace = s.trace := rfl
@[simp] theorem setResetDraws_resetDraws (v : Nat) : (s.setResetDraws v).resetDraws = v := rfl

end Sys2Proof.Machine.State
end

