-- ==== Sys2Proof/Laws/Ops.lean ====
section
/-! SUPPORT. For each shared operation of Machine/Ops.lean one equation that says once everything it does, in terms of
the single-field updates; later proofs cite these instead of unfolding the operation. -/

namespace Sys2Proof.Machine.State

variable (s : State)

/-! ### The memory collaborator -/

/-- What an address answers depends on storage, backings and devices alone. -/
theorem answer_congr {t : State} (hm : t.mem = s.mem) (hr : t.regions = s.regions) (hd : t.devices = s.devices) (a : Word) :
    t.answer a = s.answer a := by
  rw [answer, answer, backing, backing, peek, peek, hm, hr, hd]

/-- Storage answers the byte it holds. -/
theorem answer_storage {a : Word} (h : s.backing a ≠ .device) : s.answer a = s.peek a := by
  unfold answer
  split <;> simp_all

theorem answer_device {a : Word} (h : s.backing a = .device) : s.answer a = Config.deviceAnswer s.devices a := by
  simp [answer, h]

theorem devicesAfterRead_storage {a : Word} (h : s.backing a ≠ .device) : s.devicesAfterRead a = s.devices := by
  unfold devicesAfterRead
  split <;> simp_all

theorem devicesAfterWrite_storage {a : Word} (v : Byte) (h : s.backing a ≠ .device) :
    s.devicesAfterWrite a v = s.devices := by
  unfold devicesAfterWrite
  split <;> simp_all

theorem memAfterWrite_ram {a : Word} (v : Byte) (h : s.backing a = .ram) :
    s.memAfterWrite a v = s.mem.writeByte a.toNat v := by
  simp [memAfterWrite, h]

theorem memAfterWrite_not_ram {a : Word} (v : Byte) (h : s.backing a ≠ .ram) : s.memAfterWrite a v = s.mem := by
  unfold memAfterWrite
  split <;> simp_all

@[simp] theorem peek_setA (v : Byte) (a : Word) : (s.setA v).peek a = s.peek a := rfl
@[simp] theorem answer_setA (v : Byte) (a : Word) : (s.setA v).answer a = s.answer a := rfl
@[simp] theorem backing_setA (v : Byte) (a : Word) : (s.setA v).backing a = s.backing a := rfl
@[simp] theorem peek_setX (v : Byte) (a : Word) : (s.setX v).peek a = s.peek a := rfl
@[simp] theorem answer_setX (v : Byte) (a : Word) : (s.setX v).answer a = s.answer a := rfl
@[simp] theorem backing_setX (v : Byte) (a : Word) : (s.setX v).backing a = s.backing a := rfl
@[simp] theorem peek_setY (v : Byte) (a : Word) : (s.setY v).peek a = s.peek a := rfl
@[simp] theorem answer_setY (v : Byte) (a : Word) : (s.setY v).answer a = s.answer a := rfl
@[simp] theorem backing_setY (v : Byte) (a : Word) : (s.setY v).backing a = s.backing a := rfl
@[simp] theorem peek_setSp (v : Byte) (a : Word) : (s.setSp v).peek a = s.peek a := rfl
@[simp] theorem answer_setSp (v : Byte) (a : Word) : (s.setSp v).answer a = s.answer a := rfl
@[simp] theorem backing_setSp (v : Byte) (a : Word) : (s.setSp v).backing a = s.backing a := rfl
@[simp] theorem peek_setPc (v : Word) (a : Word) : (s.setPc v).peek a = s.peek a := rfl
@[simp] theorem answer_setPc (v : Word) (a : Word) : (s.setPc v).answer a = s.answer a := rfl
@[simp] theorem backing_setPc (v : Word) (a : Word) : (s.setPc v).backing a = s.backing a := rfl
@[simp] theorem peek_setP (v : Flags) (a : Word) : (s.setP v).peek a = s.peek a := rfl
@[simp] theorem answer_setP (v : Flags) (a : Word) : (s.setP v).answer a = s.answer a := rfl
@[simp] theorem backing_setP (v : Flags) (a : Word) : (s.setP v).backing a = s.backing a := rfl
@[simp] theorem peek_setPendNmi (v : Bool) (a : Word) : (s.setPendNmi v).peek a = s.peek a := rfl
@[simp] theorem answer_setPendNmi (v : Bool) (a : Word) : (s.setPendNmi v).answer a = s.answer a := rfl
@[simp] theorem backing_setPendNmi (v : Bool) (a : Word) : (s.setPendNmi v).backing a = s.backing a := rfl
@[simp] theorem peek_setPendIrq (v : Bool) (a : Word) : (s.setPendIrq v).peek a = s.peek a := rfl
@[simp] theorem answer_setPendIrq (v : Bool) (a : Word) : (s.setPendIrq v).answer a = s.answer a := rfl
@[simp] theorem backing_setPendIrq (v : Bool) (a : Word) : (s.setPendIrq v).backing a = s.backing a := rfl
@[simp] theorem peek_setTrace (v : List Access) (a : Word) : (s.setTrace v).peek a = s.peek a := rfl
@[simp] theorem answer_setTrace (v : List Access) (a : Word) : (s.setTrace v).answer a = s.answer a := rfl
@[simp] theorem backing_setTrace (v : List Access) (a : Word) : (s.setTrace v).backing a = s.backing a := rfl

/-! ### Bus accesses -/

@[simp] theorem log_a (e : Access) : (s.log e).a = s.a := rfl
@[simp] theorem log_x (e : Access) : (s.log e).x = s.x := rfl
@[simp] theorem log_y (e : Access) : (s.log e).y = s.y := rfl
@[simp] theorem log_sp (e : Access) : (s.log e).sp = s.sp := rfl
@[simp] theorem log_pc (e : Access) : (s.log e).pc = s.pc := rfl
@[simp] theorem log_p (e : Access) : (s.log e).p = s.p := rfl
@[simp] theorem log_run (e : Access) : (s.log e).run = s.run := rfl
@[simp] theorem log_pendReset (e : Access) : (s.log e).pendReset = s.pendReset := rfl
@[simp] theorem log_pendNmi (e : Access) : (s.log e).pendNmi = s.pendNmi := rfl
@[simp] theorem log_pendIrq (e : Access) : (s.log e).pendIrq = s.pendIrq := rfl
@[simp] theorem log_fault (e : Access) : (s.log e).fault = s.fault := rfl
@[simp] theorem log_mem (e : Access) : (s.log e).mem = s.mem := rfl
@[simp] theorem log_regions (e : Access) : (s.log e).regions = s.regions := rfl
@[simp] theorem log_devices (e : Access) : (s.log e).devices = s.devices := rfl
@[simp] theorem log_trace (e : Access) : (s.log e).trace = s.trace ++ [e] := rfl
@[simp] theorem log_resetDraws (e : Access) : (s.log e).resetDraws = s.resetDraws := rfl
@[simp] theorem peek_log (e : Access) (a : Word) : (s.log e).peek a = s.peek a := rfl
@[simp] theorem answer_log (e : Access) (a : Word) : (s.log e).answer a = s.answer a := rfl
@[simp] theorem backing_log (e : Access) (a : Word) : (s.log e).backing a = s.backing a := rfl

/-- A read answers what the collaborator gives, which the devices may notice, and logs it; nothing else changes. -/
theorem memRead_eq (a : Word) :
    s.memRead a = (s.answer a, (s.setDevices (s.devicesAfterRead a)).log (.read a (s.answer a))) := rfl

/-- A write hands the byte to the collaborator and logs it; nothing else changes. -/
theorem memWrite_eq (a : Word) (v : Byte) :
    s.memWrite a v = ((s.setMem (s.memAfterWrite a v)).setDevices (s.devicesAfterWrite a v)).log (.write a v) := rfl

/-- What storage holds at an address depends on memory alone. -/
theorem peek_congr {t : State} (h : t.mem = s.mem) (a : Word) : t.peek a = s.peek a := by
  rw [peek, peek, h]

/-- Every byte of storage after a write: only RAM takes it, and only at that address. -/
theorem peek_memWrite (a b : Word) (v : Byte) :
    (s.memWrite a v).peek b = if b = a ∧ s.backing a = .ram then v else s.peek b := by
  by_cases hr : s.backing a = .ram
  · by_cases hb : b = a
    · subst hb
      simp [memWrite_eq, peek, memAfterWrite_ram s v hr, hr]
    · have hn : b.toNat ≠ a.toNat := fun e => hb (BitVec.eq_of_toNat_eq e)
      simp [memWrite_eq, peek, memAfterWrite_ram s v hr, hb, Memory.readByte_writeByte_ne _ _ hn]
  · simp [memWrite_eq, peek, memAfterWrite_not_ram s v hr, hr]

theorem peek_memWrite_same {a : Word} (v : Byte) (h : s.backing a = .ram) : (s.memWrite a v).peek a = v := by
  simp [peek_memWrite, h]

theorem peek_memWrite_ne {a b : Word} (v : Byte) (h : b ≠ a) : (s.memWrite a v).peek b = s.peek b := by
  simp [peek_memWrite, h]

theorem memAfterWrite_wf (h : s.mem.wf) (a : Word) (v : Byte) : (s.memAfterWrite a v).wf := by
  unfold memAfterWrite
  split
  · exact Memory.wf_writeByte h a v
  · exact h
  · exact h

theorem memWrite_mem_wf (h : s.mem.wf) (a : Word) (v : Byte) : (s.memWrite a v).mem.wf :=
  memAfterWrite_wf s h a v

/-- `Read16`: two reads, low byte first. -/
theorem read16_eq (a : Word) :
    s.read16 a =
      let lo := s.memRead a
      let hi := lo.2.memRead (a + 1)
      (joinBytes hi.1 lo.1, hi.2) := rfl

/-- `Read16ZP`: two reads in page zero, low byte first. -/
theorem read16zp_eq (b : Byte) :
    s.read16zp b =
      let lo := s.memRead (zext16 b)
      let hi := lo.2.memRead (zext16 (b + 1))
      (joinBytes hi.1 lo.1, hi.2) := rfl

/-! A read changes the trace and what the devices hold, and nothing else. -/

@[simp] theorem memRead_a (a : Word) : (s.memRead a).2.a = s.a := rfl
@[simp] theorem memRead_x (a : Word) : (s.memRead a).2.x = s.x := rfl
@[simp] theorem memRead_y (a : Word) : (s.memRead a).2.y = s.y := rfl
@[simp] theorem memRead_sp (a : Word) : (s.memRead a).2.sp = s.sp := rfl
@[simp] theorem memRead_pc (a : Word) : (s.memRead a).2.pc = s.pc := rfl
@[simp] theorem memRead_p (a : Word) : (s.memRead a).2.p = s.p := rfl
@[simp] theorem memRead_run (a : Word) : (s.memRead a).2.run = s.run := rfl
@[simp] theorem memRead_pendReset (a : Word) : (s.memRead a).2.pendReset = s.pendReset := rfl
@[simp] theorem memRead_pendNmi (a : Word) : (s.memRead a).2.pendNmi = s.pendNmi := rfl
@[simp] theorem memRead_pendIrq (a : Word) : (s.memRead a).2.pendIrq = s.pendIrq := rfl
@[simp] theorem memRead_fault (a : Word) : (s.memRead a).2.fault = s.fault := rfl
@[simp] theorem memRead_mem (a : Word) : (s.memRead a).2.mem = s.mem := rfl
@[simp] theorem memRead_regions (a : Word) : (s.memRead a).2.regions = s.regions := rfl
@[simp] theorem memRead_resetDraws (a : Word) : (s.memRead a).2.resetDraws = s.resetDraws := rfl
@[simp] theorem memRead_trace (a : Word) : (s.memRead a).2.trace = s.trace ++ [.read a (s.answer a)] := rfl
@[simp] theorem memRead_devices (a : Word) : (s.memRead a).2.devices = s.devicesAfterRead a := rfl
@[simp] theorem memRead_value (a : Word) : (s.memRead a).1 = s.answer a := rfl
@[simp] theorem peek_memRead (a b : Word) : (s.memRead a).2.peek b = s.peek b := rfl
@[simp] theorem backing_memRead (a b : Word) : (s.memRead a).2.backing b = s.backing b := rfl

/-! ### The stack -/

/-- `Push`: one write at the stack location of SP, then SP decreases. -/
theorem push_eq (v : Byte) : s.push v = (s.memWrite (stackAddr s.sp) v).setSp (s.sp - 1) := rfl

@[simp] theorem push_a (v : Byte) : (s.push v).a = s.a := rfl
@[simp] theorem push_x (v : Byte) : (s.push v).x = s.x := rfl
@[simp] theorem push_y (v : Byte) : (s.push v).y = s.y := rfl
@[simp] theorem push_sp (v : Byte) : (s.push v).sp = s.sp - 1 := rfl
@[simp] theorem push_pc (v : Byte) : (s.push v).pc = s.pc := rfl
@[simp] theorem push_p (v : Byte) : (s.push v).p = s.p := rfl
@[simp] theorem push_run (v : Byte) : (s.push v).run = s.run := rfl
@[simp] theorem push_pendReset (v : Byte) : (s.push v).pendReset = s.pendReset := rfl
@[simp] theorem push_pendNmi (v : Byte) : (s.push v).pendNmi = s.pendNmi := rfl
@[simp] theorem push_pendIrq (v : Byte) : (s.push v).pendIrq = s.pendIrq := rfl
@[simp] theorem push_fault (v : Byte) : (s.push v).fault = s.fault := rfl
@[simp] theorem push_resetDraws (v : Byte) : (s.push v).resetDraws = s.resetDraws := rfl
@[simp] theorem push_trace (v : Byte) : (s.push v).trace = s.trace ++ [.write (stackAddr s.sp) v] := rfl
@[simp] theorem push_mem (v : Byte) : (s.push v).mem = s.memAfterWrite (stackAddr s.sp) v := rfl
@[simp] theorem push_regions (v : Byte) : (s.push v).regions = s.regions := rfl
@[simp] theorem push_devices (v : Byte) : (s.push v).devices = s.devicesAfterWrite (stackAddr s.sp) v := rfl
@[simp] theorem backing_push (v : Byte) (a : Word) : (s.push v).backing a = s.backing a := rfl

theorem peek_push_same (v : Byte) (h : s.backing (stackAddr s.sp) = .ram) : (s.push v).peek (stackAddr s.sp) = v :=
  peek_memWrite_same s v h

theorem peek_push_ne {b : Word} (v : Byte) (h : b ≠ stackAddr s.sp) : (s.push v).peek b = s.peek b :=
  peek_memWrite_ne s v h

/-- `Pull`: SP increases, then one read at the stack location of the new SP. -/
theorem pull_eq : s.pull = (s.setSp (s.sp + 1)).memRead (stackAddr (s.sp + 1)) := rfl

/-- A byte pushed into RAM is the byte pulled, and SP is where it was. -/
theorem pull_push (v : Byte) (h : s.backing (stackAddr s.sp) = .ram) :
    (s.push v).pull.1 = v ∧ (s.push v).pull.2.sp = s.sp := by
  have hs : s.sp - 1 + 1 = s.sp := by simp
  have hn : (s.push v).backing (stackAddr s.sp) ≠ .device := by simp [h]
  simp only [pull_eq, push_sp, hs, memRead_value, memRead_sp, setSp_sp, answer_setSp, and_true]
  rw [answer_storage _ hn, peek_push_same s v h]

/-! ### Errors, trap entry, return, reset -/

/-- `raise` writes the record and halts; nothing else changes. -/
theorem raise_eq (k : ErrorKind) (o : Byte) (a : Word) :
    s.raise k o a = (s.setFault (some ⟨k, o, a⟩)).setRun .halted := rfl

/-- Trap entry: three pushes, I set, two vector reads, PC from the vector (60_exceptions.md R169). -/
theorem service_eq (vec : Word) (b4 : Bool) :
    s.service vec b4 =
      let t := ((s.push (hiByte s.pc)).push (loByte s.pc)).push
        (if b4 then s.p.pushedBySoftware else s.p.pushedByInterrupt)
      let v := (t.setP { s.p with i := true }).read16 vec
      v.2.setPc v.1 := by
  cases b4 <;> simp only [service, push_p, push_pc]

/-- The return from a trap: three pulls, all flags and PC from them (47 R130). -/
theorem returnFromTrap_eq :
    s.returnFromTrap =
      let b := s.pull
      let lo := (b.2.setP (.fromByte b.1)).pull
      let hi := lo.2.pull
      hi.2.setPc (joinBytes hi.1 lo.1) := rfl

/-- The reset sequence, with its free values: the registers are written, then the vector is read (70 R180). -/
theorem resetSequence_eq :
    s.resetSequence =
      let k := s.resetDraws
      let t : State :=
        { a := Config.resetA k, x := Config.resetX k, y := Config.resetY k, sp := Config.resetSp k, pc := s.pc,
          p := resetFlags k, run := .fetching, pendReset := false, pendNmi := false, pendIrq := false, fault := none,
          mem := s.mem, regions := s.regions, devices := s.devices, trace := s.trace, resetDraws := k + 1 }
      (t.read16 Config.vecReset).2.setPc (t.read16 Config.vecReset).1 := rfl

/-! ### Fetch and the boundary -/

/-- `Fetch8`: one read at PC, then PC increases. -/
theorem fetch8_eq : s.fetch8 = ((s.memRead s.pc).1, (s.memRead s.pc).2.setPc (s.pc + 1)) := rfl

@[simp] theorem beginStep_eq : s.beginStep = s.setTrace [] := rfl

/-- Each boundary decision with exactly the condition that leads to it. -/
theorem boundary_cases :
    (s.boundary = .reset ∧ s.pendReset = true) ∨
    (s.boundary = .idle ∧ s.pendReset = false ∧ s.run = .halted) ∨
    (s.boundary = .nmi ∧ s.pendReset = false ∧ s.run = .fetching ∧ s.pendNmi = true) ∨
    (s.boundary = .irq ∧ s.pendReset = false ∧ s.run = .fetching ∧ s.pendNmi = false ∧ s.pendIrq = true ∧
      s.p.i = false) ∨
    (s.boundary = .instruction ∧ s.pendReset = false ∧ s.run = .fetching ∧ s.pendNmi = false ∧
      (s.pendIrq = false ∨ s.p.i = true)) := by
  unfold boundary
  cases s.pendReset <;> cases s.run <;> cases s.pendNmi <;> cases s.pendIrq <;> cases s.p.i <;> simp

end Sys2Proof.Machine.State
end

