-- ==== Sys2Proof/Laws/Operands.lean ====
section
/-! SUPPORT. What resolving a mode and reading an operand can change: the trace and what the devices hold, and
nothing else. -/

namespace Sys2Proof.Machine

/-- Reads changed nothing but the trace and what the devices hold. -/
abbrev OnlyRead (s t : State) : Prop := ∃ d l, t = (s.setDevices d).setTrace (s.trace ++ l)

theorem OnlyRead.refl (s : State) : OnlyRead s s := ⟨s.devices, [], by simp [State.setDevices, State.setTrace]⟩

theorem OnlyRead.memRead {s t : State} (h : OnlyRead s t) (a : Word) : OnlyRead s (t.memRead a).2 := by
  obtain ⟨d, l, rfl⟩ := h
  exact ⟨_, l ++ [_], by rw [← List.append_assoc]; rfl⟩

/-- Resolving a mode makes reads and nothing else. -/
theorem resolve_onlyRead (m : AddrMode) (s : State) : OnlyRead s (resolve m s).2 := by
  cases m with
  | ind p => exact ((OnlyRead.refl s).memRead _).memRead _
  | izx d => exact ((OnlyRead.refl s).memRead _).memRead _
  | izy d => exact ((OnlyRead.refl s).memRead _).memRead _
  | _ => exact OnlyRead.refl s

/-- Reading an operand makes reads and nothing else. -/
theorem readSrc_onlyRead (o : Src) (s : State) : OnlyRead s (readSrc o s).2 := by
  cases o with
  | imm d => exact OnlyRead.refl s
  | mem m => exact (resolve_onlyRead m s).memRead _

section fields

variable (m : AddrMode) (o : Src) (s : State)

@[simp] theorem resolve_a : (resolve m s).2.a = s.a := by obtain ⟨d, l, h⟩ := resolve_onlyRead m s; simp [h]
@[simp] theorem resolve_x : (resolve m s).2.x = s.x := by obtain ⟨d, l, h⟩ := resolve_onlyRead m s; simp [h]
@[simp] theorem resolve_y : (resolve m s).2.y = s.y := by obtain ⟨d, l, h⟩ := resolve_onlyRead m s; simp [h]
@[simp] theorem resolve_sp : (resolve m s).2.sp = s.sp := by obtain ⟨d, l, h⟩ := resolve_onlyRead m s; simp [h]
@[simp] theorem resolve_pc : (resolve m s).2.pc = s.pc := by obtain ⟨d, l, h⟩ := resolve_onlyRead m s; simp [h]
@[simp] theorem resolve_p : (resolve m s).2.p = s.p := by obtain ⟨d, l, h⟩ := resolve_onlyRead m s; simp [h]
@[simp] theorem resolve_run : (resolve m s).2.run = s.run := by obtain ⟨d, l, h⟩ := resolve_onlyRead m s; simp [h]
@[simp] theorem resolve_pendReset : (resolve m s).2.pendReset = s.pendReset := by obtain ⟨d, l, h⟩ := resolve_onlyRead m s; simp [h]
@[simp] theorem resolve_pendNmi : (resolve m s).2.pendNmi = s.pendNmi := by obtain ⟨d, l, h⟩ := resolve_onlyRead m s; simp [h]
@[simp] theorem resolve_pendIrq : (resolve m s).2.pendIrq = s.pendIrq := by obtain ⟨d, l, h⟩ := resolve_onlyRead m s; simp [h]
@[simp] theorem resolve_fault : (resolve m s).2.fault = s.fault := by obtain ⟨d, l, h⟩ := resolve_onlyRead m s; simp [h]
@[simp] theorem resolve_mem : (resolve m s).2.mem = s.mem := by obtain ⟨d, l, h⟩ := resolve_onlyRead m s; simp [h]
@[simp] theorem resolve_regions : (resolve m s).2.regions = s.regions := by obtain ⟨d, l, h⟩ := resolve_onlyRead m s; simp [h]
@[simp] theorem resolve_resetDraws : (resolve m s).2.resetDraws = s.resetDraws := by obtain ⟨d, l, h⟩ := resolve_onlyRead m s; simp [h]
@[simp] theorem peek_resolve (a : Word) : (resolve m s).2.peek a = s.peek a := s.peek_congr (resolve_mem m s) a
@[simp] theorem backing_resolve (a : Word) : (resolve m s).2.backing a = s.backing a := by simp [State.backing]

@[simp] theorem readSrc_a : (readSrc o s).2.a = s.a := by obtain ⟨d, l, h⟩ := readSrc_onlyRead o s; simp [h]
@[simp] theorem readSrc_x : (readSrc o s).2.x = s.x := by obtain ⟨d, l, h⟩ := readSrc_onlyRead o s; simp [h]
@[simp] theorem readSrc_y : (readSrc o s).2.y = s.y := by obtain ⟨d, l, h⟩ := readSrc_onlyRead o s; simp [h]
@[simp] theorem readSrc_sp : (readSrc o s).2.sp = s.sp := by obtain ⟨d, l, h⟩ := readSrc_onlyRead o s; simp [h]
@[simp] theorem readSrc_pc : (readSrc o s).2.pc = s.pc := by obtain ⟨d, l, h⟩ := readSrc_onlyRead o s; simp [h]
@[simp] theorem readSrc_p : (readSrc o s).2.p = s.p := by obtain ⟨d, l, h⟩ := readSrc_onlyRead o s; simp [h]
@[simp] theorem readSrc_run : (readSrc o s).2.run = s.run := by obtain ⟨d, l, h⟩ := readSrc_onlyRead o s; simp [h]
@[simp] theorem readSrc_pendReset : (readSrc o s).2.pendReset = s.pendReset := by obtain ⟨d, l, h⟩ := readSrc_onlyRead o s; simp [h]
@[simp] theorem readSrc_pendNmi : (readSrc o s).2.pendNmi = s.pendNmi := by obtain ⟨d, l, h⟩ := readSrc_onlyRead o s; simp [h]
@[simp] theorem readSrc_pendIrq : (readSrc o s).2.pendIrq = s.pendIrq := by obtain ⟨d, l, h⟩ := readSrc_onlyRead o s; simp [h]
@[simp] theorem readSrc_fault : (readSrc o s).2.fault = s.fault := by obtain ⟨d, l, h⟩ := readSrc_onlyRead o s; simp [h]
@[simp] theorem readSrc_mem : (readSrc o s).2.mem = s.mem := by obtain ⟨d, l, h⟩ := readSrc_onlyRead o s; simp [h]
@[simp] theorem readSrc_regions : (readSrc o s).2.regions = s.regions := by obtain ⟨d, l, h⟩ := readSrc_onlyRead o s; simp [h]
@[simp] theorem readSrc_resetDraws : (readSrc o s).2.resetDraws = s.resetDraws := by obtain ⟨d, l, h⟩ := readSrc_onlyRead o s; simp [h]
@[simp] theorem peek_readSrc (a : Word) : (readSrc o s).2.peek a = s.peek a := s.peek_congr (readSrc_mem o s) a
@[simp] theorem backing_readSrc (a : Word) : (readSrc o s).2.backing a = s.backing a := by simp [State.backing]

end fields

end Sys2Proof.Machine
end

