-- ==== Sys2Proof/Laws/Meanings.lean ====
section
/-! SUPPORT. For each shared operation of the instruction families, one equation that says what it answers; and what a
step can be. -/

namespace Sys2Proof.Machine

theorem load_eq (set : State → Byte → State) (o : Src) (s : State) :
    load set o s = .next ((set (readSrc o s).2 (readSrc o s).1).setP (s.p.setNZ (readSrc o s).1)) := by
  simp [load]

theorem store_eq (v : Byte) (m : AddrMode) (s : State) :
    store v m s = .next ((resolve m s).2.memWrite (resolve m s).1 v) := rfl

theorem logic_eq (op : Byte → Byte → Byte) (o : Src) (s : State) :
    logic op o s = .next (((readSrc o s).2.setA (op s.a (readSrc o s).1)).setP
      (s.p.setNZ (op s.a (readSrc o s).1))) := by
  simp [logic]

theorem bitTest_eq (o : Src) (s : State) :
    bitTest o s = .next ((readSrc o s).2.setP (s.p.afterBit s.a (readSrc o s).1)) := by
  simp [bitTest]

theorem compareWith_eq (r : Byte) (o : Src) (s : State) :
    compareWith r o s = .next ((readSrc o s).2.setP (s.p.afterCompare r (readSrc o s).1)) := by
  simp [compareWith]

/-- With D = 0 the adjusted operand is added. -/
theorem addOrRaiseDecimal_binary {s : State} (h : s.p.d = false) (f : Byte → Byte) (opc : Byte) (o : Src) :
    addOrRaiseDecimal f opc o s = .next ((readSrc o s).2.addToA (f (readSrc o s).1)) := by
  simp [addOrRaiseDecimal, h]

/-- With D = 1 the error is raised after the operand read. -/
theorem addOrRaiseDecimal_decimal {s : State} (h : s.p.d = true) (f : Byte → Byte) (opc : Byte) (o : Src) :
    addOrRaiseDecimal f opc o s =
      .next ((readSrc o s).2.raise .decimalModeUnsupported opc (opcodeAddr o s)) := by
  simp [addOrRaiseDecimal, h, opcodeAddr]

theorem modifyReg_eq (set : State → Byte → State) (v : Byte) (f : Byte → Flags → Byte × Flags) (s : State) :
    modifyReg set v f s = .next ((set s (f v s.p).1).setP (f v s.p).2) := rfl

theorem modifyMem_eq (f : Byte → Flags → Byte × Flags) (m : AddrMode) (s : State) :
    modifyMem f m s =
      let ea := (resolve m s).1
      let t := (resolve m s).2.memRead ea
      let out := f t.1 s.p
      .next ((t.2.setP out.2).memWrite ea out.1) := by
  simp only [modifyMem, State.memRead_p, resolve_p]

theorem branchIf_taken (d8 : Byte) (s : State) : branchIf true d8 s = .next (s.setPc (branchTarget d8 s)) := rfl

theorem branchIf_not_taken (d8 : Byte) (s : State) : branchIf false d8 s = .next s := rfl

theorem jump_eq (m : AddrMode) (s : State) : jump m s = .next ((resolve m s).2.setPc (resolve m s).1) := rfl

theorem transfer_eq (set : State → Byte → State) (v : Byte) (s : State) :
    transfer set v s = .next ((set s v).setP (s.p.setNZ v)) := rfl

/-- What a step can be, with the condition that leads to each (60_exceptions.md R165). -/
theorem step_cases (s : State) :
    (s.pendReset = true ∧ step s = .next (s.setTrace []).resetSequence) ∨
    (s.pendReset = false ∧ s.run = .halted ∧ step s = .next (s.setTrace [])) ∨
    (s.pendReset = false ∧ s.run = .fetching ∧ s.pendNmi = true ∧ step s = .next (s.setTrace []).serviceNmi) ∨
    (s.pendReset = false ∧ s.run = .fetching ∧ s.pendNmi = false ∧ s.pendIrq = true ∧ s.p.i = false ∧
      step s = .next (s.setTrace []).serviceIrq) ∨
    (s.pendReset = false ∧ s.run = .fetching ∧ s.pendNmi = false ∧ (s.pendIrq = false ∨ s.p.i = true) ∧
      step s = executeInstruction (s.setTrace [])) := by
  rcases (s.setTrace []).boundary_cases with h | h | h | h | h <;> simp_all [step]

end Sys2Proof.Machine
end

