-- ==== Sys2Proof/Laws/PerInstr.lean ====
section
/-! SUPPORT. Statements about every instruction as syntax, one lemma per constructor. -/

namespace Sys2Proof.Laws.Shape

/-- The encoder's opcode byte is the one R54's second table gives the mnemonic in that mode, and the bytes are as many
as the mode's length (R50, R52). -/
def Statement (i : Instr) : Prop :=
  (i.mode, opcodeOf i) ∈ opcodesOf i.mnemonic ∧ (encode i).length = i.length

/-- Both parts are computed from the tables. -/
theorem of_table {i : Instr} (h : (opcodesOf i.mnemonic).contains (i.mode, opcodeOf i) = true)
    (hl : (encode i).length = i.length) : Statement i :=
  ⟨List.contains_iff_mem.mp h, hl⟩

theorem ldaImm (d8 : Byte) : Statement (.ldaImm d8) := of_table rfl rfl
theorem ldaZp (d8 : Byte) : Statement (.ldaZp d8) := of_table rfl rfl
theorem ldaZpx (d8 : Byte) : Statement (.ldaZpx d8) := of_table rfl rfl
theorem ldaAbs (addr : Word) : Statement (.ldaAbs addr) := of_table rfl rfl
theorem ldaAbx (addr : Word) : Statement (.ldaAbx addr) := of_table rfl rfl
theorem ldaAby (addr : Word) : Statement (.ldaAby addr) := of_table rfl rfl
theorem ldaIzx (d8 : Byte) : Statement (.ldaIzx d8) := of_table rfl rfl
theorem ldaIzy (d8 : Byte) : Statement (.ldaIzy d8) := of_table rfl rfl
theorem ldxImm (d8 : Byte) : Statement (.ldxImm d8) := of_table rfl rfl
theorem ldxZp (d8 : Byte) : Statement (.ldxZp d8) := of_table rfl rfl
theorem ldxZpy (d8 : Byte) : Statement (.ldxZpy d8) := of_table rfl rfl
theorem ldxAbs (addr : Word) : Statement (.ldxAbs addr) := of_table rfl rfl
theorem ldxAby (addr : Word) : Statement (.ldxAby addr) := of_table rfl rfl
theorem ldyImm (d8 : Byte) : Statement (.ldyImm d8) := of_table rfl rfl
theorem ldyZp (d8 : Byte) : Statement (.ldyZp d8) := of_table rfl rfl
theorem ldyZpx (d8 : Byte) : Statement (.ldyZpx d8) := of_table rfl rfl
theorem ldyAbs (addr : Word) : Statement (.ldyAbs addr) := of_table rfl rfl
theorem ldyAbx (addr : Word) : Statement (.ldyAbx addr) := of_table rfl rfl
theorem staZp (d8 : Byte) : Statement (.staZp d8) := of_table rfl rfl
theorem staZpx (d8 : Byte) : Statement (.staZpx d8) := of_table rfl rfl
theorem staAbs (addr : Word) : Statement (.staAbs addr) := of_table rfl rfl
theorem staAbx (addr : Word) : Statement (.staAbx addr) := of_table rfl rfl
theorem staAby (addr : Word) : Statement (.staAby addr) := of_table rfl rfl
theorem staIzx (d8 : Byte) : Statement (.staIzx d8) := of_table rfl rfl
theorem staIzy (d8 : Byte) : Statement (.staIzy d8) := of_table rfl rfl
theorem stxZp (d8 : Byte) : Statement (.stxZp d8) := of_table rfl rfl
theorem stxZpy (d8 : Byte) : Statement (.stxZpy d8) := of_table rfl rfl
theorem stxAbs (addr : Word) : Statement (.stxAbs addr) := of_table rfl rfl
theorem styZp (d8 : Byte) : Statement (.styZp d8) := of_table rfl rfl
theorem styZpx (d8 : Byte) : Statement (.styZpx d8) := of_table rfl rfl
theorem styAbs (addr : Word) : Statement (.styAbs addr) := of_table rfl rfl
theorem adcImm (d8 : Byte) : Statement (.adcImm d8) := of_table rfl rfl
theorem adcZp (d8 : Byte) : Statement (.adcZp d8) := of_table rfl rfl
theorem adcZpx (d8 : Byte) : Statement (.adcZpx d8) := of_table rfl rfl
theorem adcAbs (addr : Word) : Statement (.adcAbs addr) := of_table rfl rfl
theorem adcAbx (addr : Word) : Statement (.adcAbx addr) := of_table rfl rfl
theorem adcAby (addr : Word) : Statement (.adcAby addr) := of_table rfl rfl
theorem adcIzx (d8 : Byte) : Statement (.adcIzx d8) := of_table rfl rfl
theorem adcIzy (d8 : Byte) : Statement (.adcIzy d8) := of_table rfl rfl
theorem sbcImm (d8 : Byte) : Statement (.sbcImm d8) := of_table rfl rfl
theorem sbcZp (d8 : Byte) : Statement (.sbcZp d8) := of_table rfl rfl
theorem sbcZpx (d8 : Byte) : Statement (.sbcZpx d8) := of_table rfl rfl
theorem sbcAbs (addr : Word) : Statement (.sbcAbs addr) := of_table rfl rfl
theorem sbcAbx (addr : Word) : Statement (.sbcAbx addr) := of_table rfl rfl
theorem sbcAby (addr : Word) : Statement (.sbcAby addr) := of_table rfl rfl
theorem sbcIzx (d8 : Byte) : Statement (.sbcIzx d8) := of_table rfl rfl
theorem sbcIzy (d8 : Byte) : Statement (.sbcIzy d8) := of_table rfl rfl
theorem andImm (d8 : Byte) : Statement (.andImm d8) := of_table rfl rfl
theorem andZp (d8 : Byte) : Statement (.andZp d8) := of_table rfl rfl
theorem andZpx (d8 : Byte) : Statement (.andZpx d8) := of_table rfl rfl
theorem andAbs (addr : Word) : Statement (.andAbs addr) := of_table rfl rfl
theorem andAbx (addr : Word) : Statement (.andAbx addr) := of_table rfl rfl
theorem andAby (addr : Word) : Statement (.andAby addr) := of_table rfl rfl
theorem andIzx (d8 : Byte) : Statement (.andIzx d8) := of_table rfl rfl
theorem andIzy (d8 : Byte) : Statement (.andIzy d8) := of_table rfl rfl
theorem oraImm (d8 : Byte) : Statement (.oraImm d8) := of_table rfl rfl
theorem oraZp (d8 : Byte) : Statement (.oraZp d8) := of_table rfl rfl
theorem oraZpx (d8 : Byte) : Statement (.oraZpx d8) := of_table rfl rfl
theorem oraAbs (addr : Word) : Statement (.oraAbs addr) := of_table rfl rfl
theorem oraAbx (addr : Word) : Statement (.oraAbx addr) := of_table rfl rfl
theorem oraAby (addr : Word) : Statement (.oraAby addr) := of_table rfl rfl
theorem oraIzx (d8 : Byte) : Statement (.oraIzx d8) := of_table rfl rfl
theorem oraIzy (d8 : Byte) : Statement (.oraIzy d8) := of_table rfl rfl
theorem eorImm (d8 : Byte) : Statement (.eorImm d8) := of_table rfl rfl
theorem eorZp (d8 : Byte) : Statement (.eorZp d8) := of_table rfl rfl
theorem eorZpx (d8 : Byte) : Statement (.eorZpx d8) := of_table rfl rfl
theorem eorAbs (addr : Word) : Statement (.eorAbs addr) := of_table rfl rfl
theorem eorAbx (addr : Word) : Statement (.eorAbx addr) := of_table rfl rfl
theorem eorAby (addr : Word) : Statement (.eorAby addr) := of_table rfl rfl
theorem eorIzx (d8 : Byte) : Statement (.eorIzx d8) := of_table rfl rfl
theorem eorIzy (d8 : Byte) : Statement (.eorIzy d8) := of_table rfl rfl
theorem bitZp (d8 : Byte) : Statement (.bitZp d8) := of_table rfl rfl
theorem bitAbs (addr : Word) : Statement (.bitAbs addr) := of_table rfl rfl
theorem aslAcc : Statement .aslAcc := of_table rfl rfl
theorem aslZp (d8 : Byte) : Statement (.aslZp d8) := of_table rfl rfl
theorem aslZpx (d8 : Byte) : Statement (.aslZpx d8) := of_table rfl rfl
theorem aslAbs (addr : Word) : Statement (.aslAbs addr) := of_table rfl rfl
theorem aslAbx (addr : Word) : Statement (.aslAbx addr) := of_table rfl rfl
theorem lsrAcc : Statement .lsrAcc := of_table rfl rfl
theorem lsrZp (d8 : Byte) : Statement (.lsrZp d8) := of_table rfl rfl
theorem lsrZpx (d8 : Byte) : Statement (.lsrZpx d8) := of_table rfl rfl
theorem lsrAbs (addr : Word) : Statement (.lsrAbs addr) := of_table rfl rfl
theorem lsrAbx (addr : Word) : Statement (.lsrAbx addr) := of_table rfl rfl
theorem rolAcc : Statement .rolAcc := of_table rfl rfl
theorem rolZp (d8 : Byte) : Statement (.rolZp d8) := of_table rfl rfl
theorem rolZpx (d8 : Byte) : Statement (.rolZpx d8) := of_table rfl rfl
theorem rolAbs (addr : Word) : Statement (.rolAbs addr) := of_table rfl rfl
theorem rolAbx (addr : Word) : Statement (.rolAbx addr) := of_table rfl rfl
theorem rorAcc : Statement .rorAcc := of_table rfl rfl
theorem rorZp (d8 : Byte) : Statement (.rorZp d8) := of_table rfl rfl
theorem rorZpx (d8 : Byte) : Statement (.rorZpx d8) := of_table rfl rfl
theorem rorAbs (addr : Word) : Statement (.rorAbs addr) := of_table rfl rfl
theorem rorAbx (addr : Word) : Statement (.rorAbx addr) := of_table rfl rfl
theorem incZp (d8 : Byte) : Statement (.incZp d8) := of_table rfl rfl
theorem incZpx (d8 : Byte) : Statement (.incZpx d8) := of_table rfl rfl
theorem incAbs (addr : Word) : Statement (.incAbs addr) := of_table rfl rfl
theorem incAbx (addr : Word) : Statement (.incAbx addr) := of_table rfl rfl
theorem decZp (d8 : Byte) : Statement (.decZp d8) := of_table rfl rfl
theorem decZpx (d8 : Byte) : Statement (.decZpx d8) := of_table rfl rfl
theorem decAbs (addr : Word) : Statement (.decAbs addr) := of_table rfl rfl
theorem decAbx (addr : Word) : Statement (.decAbx addr) := of_table rfl rfl
theorem inx : Statement .inx := of_table rfl rfl
theorem iny : Statement .iny := of_table rfl rfl
theorem dex : Statement .dex := of_table rfl rfl
theorem dey : Statement .dey := of_table rfl rfl
theorem cmpImm (d8 : Byte) : Statement (.cmpImm d8) := of_table rfl rfl
theorem cmpZp (d8 : Byte) : Statement (.cmpZp d8) := of_table rfl rfl
theorem cmpZpx (d8 : Byte) : Statement (.cmpZpx d8) := of_table rfl rfl
theorem cmpAbs (addr : Word) : Statement (.cmpAbs addr) := of_table rfl rfl
theorem cmpAbx (addr : Word) : Statement (.cmpAbx addr) := of_table rfl rfl
theorem cmpAby (addr : Word) : Statement (.cmpAby addr) := of_table rfl rfl
theorem cmpIzx (d8 : Byte) : Statement (.cmpIzx d8) := of_table rfl rfl
theorem cmpIzy (d8 : Byte) : Statement (.cmpIzy d8) := of_table rfl rfl
theorem cpxImm (d8 : Byte) : Statement (.cpxImm d8) := of_table rfl rfl
theorem cpxZp (d8 : Byte) : Statement (.cpxZp d8) := of_table rfl rfl
theorem cpxAbs (addr : Word) : Statement (.cpxAbs addr) := of_table rfl rfl
theorem cpyImm (d8 : Byte) : Statement (.cpyImm d8) := of_table rfl rfl
theorem cpyZp (d8 : Byte) : Statement (.cpyZp d8) := of_table rfl rfl
theorem cpyAbs (addr : Word) : Statement (.cpyAbs addr) := of_table rfl rfl
theorem bcc (d8 : Byte) : Statement (.bcc d8) := of_table rfl rfl
theorem bcs (d8 : Byte) : Statement (.bcs d8) := of_table rfl rfl
theorem beq (d8 : Byte) : Statement (.beq d8) := of_table rfl rfl
theorem bne (d8 : Byte) : Statement (.bne d8) := of_table rfl rfl
theorem bmi (d8 : Byte) : Statement (.bmi d8) := of_table rfl rfl
theorem bpl (d8 : Byte) : Statement (.bpl d8) := of_table rfl rfl
theorem bvc (d8 : Byte) : Statement (.bvc d8) := of_table rfl rfl
theorem bvs (d8 : Byte) : Statement (.bvs d8) := of_table rfl rfl
theorem jmpAbs (addr : Word) : Statement (.jmpAbs addr) := of_table rfl rfl
theorem jmpInd (ptr : Word) : Statement (.jmpInd ptr) := of_table rfl rfl
theorem jsr (addr : Word) : Statement (.jsr addr) := of_table rfl rfl
theorem rts : Statement .rts := of_table rfl rfl
theorem brk : Statement .brk := of_table rfl rfl
theorem rti : Statement .rti := of_table rfl rfl
theorem pha : Statement .pha := of_table rfl rfl
theorem php : Statement .php := of_table rfl rfl
theorem pla : Statement .pla := of_table rfl rfl
theorem plp : Statement .plp := of_table rfl rfl
theorem tax : Statement .tax := of_table rfl rfl
theorem tay : Statement .tay := of_table rfl rfl
theorem txa : Statement .txa := of_table rfl rfl
theorem tya : Statement .tya := of_table rfl rfl
theorem tsx : Statement .tsx := of_table rfl rfl
theorem txs : Statement .txs := of_table rfl rfl
theorem sec : Statement .sec := of_table rfl rfl
theorem sed : Statement .sed := of_table rfl rfl
theorem sei : Statement .sei := of_table rfl rfl
theorem clc : Statement .clc := of_table rfl rfl
theorem cld : Statement .cld := of_table rfl rfl
theorem cli : Statement .cli := of_table rfl rfl
theorem clv : Statement .clv := of_table rfl rfl
theorem nop : Statement .nop := of_table rfl rfl

end Sys2Proof.Laws.Shape
end

