-- ==== Sys2Proof/Tests/Slice0.lean ====
section
/-! SUPPORT. Tests of the model, and a witness for the hypotheses of each obligation. Every expected result is
transcribed from the spec: descriptors that R71 forbids, encodings written out in binary from the opcode table of R54,
and rows of spec/95_test_vectors.md, whose number each theorem's name ends in. -/

namespace Sys2Proof.Tests

open Sys2Proof.Machine Sys2Proof.Claims

/-! ### WellFormed: one descriptor each check refuses (R71), and one that all pass -/

theorem test_listed_refuses_LDX_zpx : Desc.listed ⟨.ldx, .zpx⟩ = false := by decide
theorem test_indOnlyJmp_refuses_LDA_ind : Desc.indOnlyJmp ⟨.lda, .ind⟩ = false := by decide
theorem test_relIffBranch_refuses_LDA_rel : Desc.relIffBranch ⟨.lda, .rel⟩ = false := by decide
theorem test_relIffBranch_refuses_BCC_imp : Desc.relIffBranch ⟨.bcc, .imp⟩ = false := by decide
theorem test_accOnlyShift_refuses_INC_acc : Desc.accOnlyShift ⟨.inc, .acc⟩ = false := by decide
theorem test_immReadsOnly_refuses_STA_imm : Desc.immReadsOnly ⟨.sta, .imm⟩ = false := by decide
theorem test_wf_refuses_each :
    Desc.wf ⟨.ldx, .zpx⟩ = false ∧ Desc.wf ⟨.lda, .ind⟩ = false ∧ Desc.wf ⟨.lda, .rel⟩ = false ∧
    Desc.wf ⟨.inc, .acc⟩ = false ∧ Desc.wf ⟨.sta, .imm⟩ = false := by decide
theorem test_wf_accepts : Instr.wf (.staIzy 0x80) = true ∧ Instr.wf .rolAcc = true ∧ Instr.wf (.jmpInd 0x02FF) = true := by
  decide

/-! ### Decode: every row of spec/opcode_table.json, its `encoding` in binary, with operand bytes 0x34 and 0x12 -/

/-- Each list of bytes decodes to the instruction beside it, with nothing left over. -/
def decodesTo (rows : List (List Byte × Instr)) : Bool := rows.all fun r => decode r.1 == .ok r.2 []

theorem test_decode_load_store_1 : decodesTo
    [([0b10101001, 0x34], .ldaImm 0x34), ([0b10100101, 0x34], .ldaZp 0x34),
     ([0b10110101, 0x34], .ldaZpx 0x34), ([0b10101101, 0x34, 0x12], .ldaAbs 0x1234),
     ([0b10111101, 0x34, 0x12], .ldaAbx 0x1234), ([0b10111001, 0x34, 0x12], .ldaAby 0x1234),
     ([0b10100001, 0x34], .ldaIzx 0x34), ([0b10110001, 0x34], .ldaIzy 0x34)] = true := by decide
theorem test_decode_load_store_2 : decodesTo
    [([0b10100010, 0x34], .ldxImm 0x34), ([0b10100110, 0x34], .ldxZp 0x34),
     ([0b10110110, 0x34], .ldxZpy 0x34), ([0b10101110, 0x34, 0x12], .ldxAbs 0x1234),
     ([0b10111110, 0x34, 0x12], .ldxAby 0x1234), ([0b10100000, 0x34], .ldyImm 0x34),
     ([0b10100100, 0x34], .ldyZp 0x34), ([0b10110100, 0x34], .ldyZpx 0x34)] = true := by decide
theorem test_decode_load_store_3 : decodesTo
    [([0b10101100, 0x34, 0x12], .ldyAbs 0x1234), ([0b10111100, 0x34, 0x12], .ldyAbx 0x1234),
     ([0b10000101, 0x34], .staZp 0x34), ([0b10010101, 0x34], .staZpx 0x34),
     ([0b10001101, 0x34, 0x12], .staAbs 0x1234), ([0b10011101, 0x34, 0x12], .staAbx 0x1234),
     ([0b10011001, 0x34, 0x12], .staAby 0x1234), ([0b10000001, 0x34], .staIzx 0x34)] = true := by decide
theorem test_decode_load_store_4 : decodesTo
    [([0b10010001, 0x34], .staIzy 0x34), ([0b10000110, 0x34], .stxZp 0x34),
     ([0b10010110, 0x34], .stxZpy 0x34), ([0b10001110, 0x34, 0x12], .stxAbs 0x1234),
     ([0b10000100, 0x34], .styZp 0x34), ([0b10010100, 0x34], .styZpx 0x34),
     ([0b10001100, 0x34, 0x12], .styAbs 0x1234)] = true := by decide
theorem test_decode_arithmetic_1 : decodesTo
    [([0b01101001, 0x34], .adcImm 0x34), ([0b01100101, 0x34], .adcZp 0x34),
     ([0b01110101, 0x34], .adcZpx 0x34), ([0b01101101, 0x34, 0x12], .adcAbs 0x1234),
     ([0b01111101, 0x34, 0x12], .adcAbx 0x1234), ([0b01111001, 0x34, 0x12], .adcAby 0x1234),
     ([0b01100001, 0x34], .adcIzx 0x34), ([0b01110001, 0x34], .adcIzy 0x34)] = true := by decide
theorem test_decode_arithmetic_2 : decodesTo
    [([0b11101001, 0x34], .sbcImm 0x34), ([0b11100101, 0x34], .sbcZp 0x34),
     ([0b11110101, 0x34], .sbcZpx 0x34), ([0b11101101, 0x34, 0x12], .sbcAbs 0x1234),
     ([0b11111101, 0x34, 0x12], .sbcAbx 0x1234), ([0b11111001, 0x34, 0x12], .sbcAby 0x1234),
     ([0b11100001, 0x34], .sbcIzx 0x34), ([0b11110001, 0x34], .sbcIzy 0x34)] = true := by decide
theorem test_decode_logic_1 : decodesTo
    [([0b00101001, 0x34], .andImm 0x34), ([0b00100101, 0x34], .andZp 0x34),
     ([0b00110101, 0x34], .andZpx 0x34), ([0b00101101, 0x34, 0x12], .andAbs 0x1234),
     ([0b00111101, 0x34, 0x12], .andAbx 0x1234), ([0b00111001, 0x34, 0x12], .andAby 0x1234),
     ([0b00100001, 0x34], .andIzx 0x34), ([0b00110001, 0x34], .andIzy 0x34)] = true := by decide
theorem test_decode_logic_2 : decodesTo
    [([0b00001001, 0x34], .oraImm 0x34), ([0b00000101, 0x34], .oraZp 0x34),
     ([0b00010101, 0x34], .oraZpx 0x34), ([0b00001101, 0x34, 0x12], .oraAbs 0x1234),
     ([0b00011101, 0x34, 0x12], .oraAbx 0x1234), ([0b00011001, 0x34, 0x12], .oraAby 0x1234),
     ([0b00000001, 0x34], .oraIzx 0x34), ([0b00010001, 0x34], .oraIzy 0x34)] = true := by decide
theorem test_decode_logic_3 : decodesTo
    [([0b01001001, 0x34], .eorImm 0x34), ([0b01000101, 0x34], .eorZp 0x34),
     ([0b01010101, 0x34], .eorZpx 0x34), ([0b01001101, 0x34, 0x12], .eorAbs 0x1234),
     ([0b01011101, 0x34, 0x12], .eorAbx 0x1234), ([0b01011001, 0x34, 0x12], .eorAby 0x1234),
     ([0b01000001, 0x34], .eorIzx 0x34), ([0b01010001, 0x34], .eorIzy 0x34)] = true := by decide
theorem test_decode_logic_4 : decodesTo
    [([0b00100100, 0x34], .bitZp 0x34), ([0b00101100, 0x34, 0x12], .bitAbs 0x1234)] = true := by decide
theorem test_decode_shift_1 : decodesTo
    [([0b00001010], .aslAcc), ([0b00000110, 0x34], .aslZp 0x34),
     ([0b00010110, 0x34], .aslZpx 0x34), ([0b00001110, 0x34, 0x12], .aslAbs 0x1234),
     ([0b00011110, 0x34, 0x12], .aslAbx 0x1234), ([0b01001010], .lsrAcc),
     ([0b01000110, 0x34], .lsrZp 0x34), ([0b01010110, 0x34], .lsrZpx 0x34)] = true := by decide
theorem test_decode_shift_2 : decodesTo
    [([0b01001110, 0x34, 0x12], .lsrAbs 0x1234), ([0b01011110, 0x34, 0x12], .lsrAbx 0x1234),
     ([0b00101010], .rolAcc), ([0b00100110, 0x34], .rolZp 0x34),
     ([0b00110110, 0x34], .rolZpx 0x34), ([0b00101110, 0x34, 0x12], .rolAbs 0x1234),
     ([0b00111110, 0x34, 0x12], .rolAbx 0x1234), ([0b01101010], .rorAcc)] = true := by decide
theorem test_decode_shift_3 : decodesTo
    [([0b01100110, 0x34], .rorZp 0x34), ([0b01110110, 0x34], .rorZpx 0x34),
     ([0b01101110, 0x34, 0x12], .rorAbs 0x1234), ([0b01111110, 0x34, 0x12], .rorAbx 0x1234)] = true := by decide
theorem test_decode_inc_dec_1 : decodesTo
    [([0b11100110, 0x34], .incZp 0x34), ([0b11110110, 0x34], .incZpx 0x34),
     ([0b11101110, 0x34, 0x12], .incAbs 0x1234), ([0b11111110, 0x34, 0x12], .incAbx 0x1234),
     ([0b11000110, 0x34], .decZp 0x34), ([0b11010110, 0x34], .decZpx 0x34),
     ([0b11001110, 0x34, 0x12], .decAbs 0x1234), ([0b11011110, 0x34, 0x12], .decAbx 0x1234)] = true := by decide
theorem test_decode_inc_dec_2 : decodesTo
    [([0b11101000], .inx), ([0b11001000], .iny),
     ([0b11001010], .dex), ([0b10001000], .dey)] = true := by decide
theorem test_decode_compare_1 : decodesTo
    [([0b11001001, 0x34], .cmpImm 0x34), ([0b11000101, 0x34], .cmpZp 0x34),
     ([0b11010101, 0x34], .cmpZpx 0x34), ([0b11001101, 0x34, 0x12], .cmpAbs 0x1234),
     ([0b11011101, 0x34, 0x12], .cmpAbx 0x1234), ([0b11011001, 0x34, 0x12], .cmpAby 0x1234),
     ([0b11000001, 0x34], .cmpIzx 0x34), ([0b11010001, 0x34], .cmpIzy 0x34)] = true := by decide
theorem test_decode_compare_2 : decodesTo
    [([0b11100000, 0x34], .cpxImm 0x34), ([0b11100100, 0x34], .cpxZp 0x34),
     ([0b11101100, 0x34, 0x12], .cpxAbs 0x1234), ([0b11000000, 0x34], .cpyImm 0x34),
     ([0b11000100, 0x34], .cpyZp 0x34), ([0b11001100, 0x34, 0x12], .cpyAbs 0x1234)] = true := by decide
theorem test_decode_branch : decodesTo
    [([0b10010000, 0x34], .bcc 0x34), ([0b10110000, 0x34], .bcs 0x34),
     ([0b11110000, 0x34], .beq 0x34), ([0b11010000, 0x34], .bne 0x34),
     ([0b00110000, 0x34], .bmi 0x34), ([0b00010000, 0x34], .bpl 0x34),
     ([0b01010000, 0x34], .bvc 0x34), ([0b01110000, 0x34], .bvs 0x34)] = true := by decide
theorem test_decode_control : decodesTo
    [([0b01001100, 0x34, 0x12], .jmpAbs 0x1234), ([0b01101100, 0x34, 0x12], .jmpInd 0x1234),
     ([0b00100000, 0x34, 0x12], .jsr 0x1234), ([0b01100000], .rts),
     ([0b00000000], .brk), ([0b01000000], .rti)] = true := by decide
theorem test_decode_stack_transfer_1 : decodesTo
    [([0b01001000], .pha), ([0b00001000], .php),
     ([0b01101000], .pla), ([0b00101000], .plp),
     ([0b10101010], .tax), ([0b10101000], .tay),
     ([0b10001010], .txa), ([0b10011000], .tya)] = true := by decide
theorem test_decode_stack_transfer_2 : decodesTo
    [([0b10111010], .tsx), ([0b10011010], .txs)] = true := by decide
theorem test_decode_flag_nop : decodesTo
    [([0b00111000], .sec), ([0b11111000], .sed),
     ([0b01111000], .sei), ([0b00011000], .clc),
     ([0b11011000], .cld), ([0b01011000], .cli),
     ([0b10111000], .clv), ([0b11101010], .nop)] = true := by decide

theorem test_decode_rejects_illegal : decode [0x02, 0xEA] = .unimplementedOpcode 0x02 := by decide
theorem test_decode_rejects_truncated : decode [0xAD, 0x34] = .truncated ∧ decode [] = .truncated := by decide
theorem test_decodeTableWord : decodeTableWord 24 0x1234BD = some (.ldaAbx 0x1234) ∧ decodeTableWord 8 0x02 = none ∧
    decodeTableWord 8 0x20 = some (.jsr 0) := by decide
theorem test_encode_jmpInd : encode (.jmpInd 0x02FF) = [0x6C, 0xFF, 0x02] := by decide

/-! ### One step: rows of 95_test_vectors.md section 3 -/

/-- The default start state of 95_test_vectors.md section 1. -/
def start : State := { State.reset with sp := 0xFF, pc := 0x0200 }

/-- Memory with the given bytes. -/
def memory (cells : List (Word × Byte)) : Memory := cells.foldl (fun m c => m.writeByte c.1.toNat c.2) []

/-- What a row of the vectors gives: A, X, Y, SP, PC, the status byte, and the accesses after those at PC (`skip`). -/
structure Seen where
  a : Byte
  x : Byte
  y : Byte
  sp : Byte
  pc : Word
  p : Byte
  accesses : List Access
  deriving DecidableEq, Repr

/-- The end of a step, as a row of the vectors gives it. -/
def seen (skip : Nat) : Result → Option Seen
  | .next t => some ⟨t.a, t.x, t.y, t.sp, t.pc, t.p.toByte, t.trace.drop skip⟩
  | .fault f => nomatch f
  | .refused _ => none

/-- The run state and the fault record at the end of a step. -/
def faultOf : Result → Option (RunState × Option FaultRecord)
  | .next t => some (t.run, t.fault)
  | .fault f => nomatch f
  | .refused _ => none

/-- The three latches at the end of a step: reset, NMI, IRQ. -/
def latches : Result → Option (Bool × Bool × Bool)
  | .next t => some (t.pendReset, t.pendNmi, t.pendIrq)
  | .fault f => nomatch f
  | .refused _ => none

theorem test_ldaZpx_LS5 : seen 2 (step { start with
      x := 0x20, mem := memory [(0x0010, 0xAB), (0x0110, 0xCD), (0x0200, 0xB5), (0x0201, 0xF0)] }) =
    some ⟨0xAB, 0x20, 0x00, 0xFF, 0x0202, 0xA4, [.read 0x0010 0xAB]⟩ := by decide
theorem test_ldaIzy_LS13 : seen 2 (step { start with
      y := 0x01, mem := memory [(0x0000, 0x30), (0x0100, 0x40), (0x0200, 0xB1), (0x0201, 0xFF), (0x3001, 0x5A),
        (0x4001, 0xA5)] }) =
    some ⟨0x5A, 0x00, 0x01, 0xFF, 0x0202, 0x24, [.read 0x00FF 0x00, .read 0x0000 0x30,
      .read 0x3001 0x5A]⟩ := by decide
theorem test_ldxZpy_LS16 : seen 2 (step { start with
      x := 0x33, y := 0x20, mem := memory [(0x0200, 0xB6), (0x0201, 0xF0)] }) =
    some ⟨0x00, 0x00, 0x20, 0xFF, 0x0202, 0x26, [.read 0x0010 0x00]⟩ := by decide
theorem test_ldyZpx_LS19 : seen 2 (step { start with
      x := 0x05, mem := memory [(0x0015, 0x80), (0x0200, 0xB4), (0x0201, 0x10)] }) =
    some ⟨0x00, 0x05, 0x80, 0xFF, 0x0202, 0xA4, [.read 0x0015 0x80]⟩ := by decide
theorem test_staZp_LS21 : seen 2 (step { start with
      p := { start.p with n := true }, mem := memory [(0x0010, 0xFF), (0x0200, 0x85), (0x0201, 0x10)] }) =
    some ⟨0x00, 0x00, 0x00, 0xFF, 0x0202, 0xA4, [.write 0x0010 0x00]⟩ := by decide
theorem test_staIzx_LS24 : seen 2 (step { start with
      a := 0xA5, x := 0x04, mem := memory [(0x0085, 0x40), (0x0200, 0x81), (0x0201, 0x80)] }) =
    some ⟨0xA5, 0x04, 0x00, 0xFF, 0x0202, 0x24, [.read 0x0084 0x00, .read 0x0085 0x40,
      .write 0x4000 0xA5]⟩ := by decide
theorem test_stxZpy_LS25 : seen 2 (step { start with
      x := 0x77, y := 0x20, mem := memory [(0x0200, 0x96), (0x0201, 0xF0)] }) =
    some ⟨0x00, 0x77, 0x20, 0xFF, 0x0202, 0x24, [.write 0x0010 0x77]⟩ := by decide
theorem test_styZpx_LS27 : seen 2 (step { start with
      x := 0xFF, y := 0x88, mem := memory [(0x0200, 0x94), (0x0201, 0x10)] }) =
    some ⟨0x00, 0xFF, 0x88, 0xFF, 0x0202, 0x24, [.write 0x000F 0x88]⟩ := by decide
theorem test_adcImm_AR7 : seen 2 (step { start with
      a := 0x80, mem := memory [(0x0200, 0x69), (0x0201, 0xFF)] }) =
    some ⟨0x7F, 0x00, 0x00, 0xFF, 0x0202, 0x65, []⟩ := by decide
theorem test_adcImm_AR20 : seen 2 (step { start with
      a := 0x09, p := { start.p with d := true }, mem := memory [(0x0200, 0x69), (0x0201, 0x01)] }) =
    some ⟨0x09, 0x00, 0x00, 0xFF, 0x0202, 0x2C, []⟩ := by decide
theorem test_adcImm_AR20_fault : faultOf (step { start with
      a := 0x09, p := { start.p with d := true }, mem := memory [(0x0200, 0x69), (0x0201, 0x01)] }) =
    some (.halted, some ⟨.decimalModeUnsupported, 0x69, 0x0200⟩) := by decide
theorem test_sbcImm_AR15 : seen 2 (step { start with
      a := 0x80, p := { start.p with c := true }, mem := memory [(0x0200, 0xE9), (0x0201, 0x01)] }) =
    some ⟨0x7F, 0x00, 0x00, 0xFF, 0x0202, 0x65, []⟩ := by decide
theorem test_sbcZp_AR21 : seen 2 (step { start with
      a := 0x10, p := { start.p with d := true, c := true }, mem := memory [(0x0010, 0x01), (0x0200, 0xE5), (0x0201,
        0x10)] }) =
    some ⟨0x10, 0x00, 0x00, 0xFF, 0x0202, 0x2D, [.read 0x0010 0x01]⟩ := by decide
theorem test_sbcZp_AR21_fault : faultOf (step { start with
      a := 0x10, p := { start.p with d := true, c := true }, mem := memory [(0x0010, 0x01), (0x0200, 0xE5), (0x0201,
        0x10)] }) =
    some (.halted, some ⟨.decimalModeUnsupported, 0xE5, 0x0200⟩) := by decide
theorem test_andZp_LG3 : seen 2 (step { start with
      a := 0x5A, p := { start.p with v := true, c := true }, mem := memory [(0x0010, 0x3C), (0x0200, 0x25), (0x0201,
        0x10)] }) =
    some ⟨0x18, 0x00, 0x00, 0xFF, 0x0202, 0x65, [.read 0x0010 0x3C]⟩ := by decide
theorem test_oraIzy_LG6 : seen 2 (step { start with
      a := 0x30, y := 0x03, mem := memory [(0x0021, 0x30), (0x0200, 0x11), (0x0201, 0x20), (0x3003, 0x0F)] }) =
    some ⟨0x3F, 0x00, 0x03, 0xFF, 0x0202, 0x24, [.read 0x0020 0x00, .read 0x0021 0x30,
      .read 0x3003 0x0F]⟩ := by decide
theorem test_eorAby_LG9 : seen 3 (step { start with
      a := 0xAA, y := 0x04, mem := memory [(0x0200, 0x59), (0x0201, 0x34), (0x0202, 0x12), (0x1238, 0x55)] }) =
    some ⟨0xFF, 0x00, 0x04, 0xFF, 0x0203, 0xA4, [.read 0x1238 0x55]⟩ := by decide
theorem test_bitZp_LG10 : seen 2 (step { start with
      a := 0x3F, mem := memory [(0x0010, 0xC0), (0x0200, 0x24), (0x0201, 0x10)] }) =
    some ⟨0x3F, 0x00, 0x00, 0xFF, 0x0202, 0xE6, [.read 0x0010 0xC0]⟩ := by decide
theorem test_aslAcc_SH2 : seen 1 (step { start with
      a := 0x41, p := { start.p with c := true }, mem := memory [(0x0200, 0x0A)] }) =
    some ⟨0x82, 0x00, 0x00, 0xFF, 0x0201, 0xA4, []⟩ := by decide
theorem test_aslAbx_SH4 : seen 3 (step { start with
      x := 0x01, p := { start.p with c := true }, mem := memory [(0x0200, 0x1E), (0x0201, 0x34), (0x0202, 0x12)] }) =
    some ⟨0x00, 0x01, 0x00, 0xFF, 0x0203, 0x26, [.read 0x1235 0x00, .write 0x1235 0x00]⟩ := by decide
theorem test_lsrAcc_SH6 : seen 1 (step { start with
      a := 0xFE, p := { start.p with c := true }, mem := memory [(0x0200, 0x4A)] }) =
    some ⟨0x7F, 0x00, 0x00, 0xFF, 0x0201, 0x24, []⟩ := by decide
theorem test_lsrZpx_SH7 : seen 2 (step { start with
      x := 0x02, mem := memory [(0x0012, 0x80), (0x0200, 0x56), (0x0201, 0x10)] }) =
    some ⟨0x00, 0x02, 0x00, 0xFF, 0x0202, 0x24, [.read 0x0012 0x80, .write 0x0012 0x40]⟩ := by decide
theorem test_rolAcc_SH9 : seen 1 (step { start with
      a := 0x40, p := { start.p with c := true }, mem := memory [(0x0200, 0x2A)] }) =
    some ⟨0x81, 0x00, 0x00, 0xFF, 0x0201, 0xA4, []⟩ := by decide
theorem test_rolZp_SH10 : seen 2 (step { start with
      mem := memory [(0x0200, 0x26), (0x0201, 0x10)] }) =
    some ⟨0x00, 0x00, 0x00, 0xFF, 0x0202, 0x26, [.read 0x0010 0x00, .write 0x0010 0x00]⟩ := by decide
theorem test_rorAcc_SH13 : seen 1 (step { start with
      p := { start.p with c := true }, mem := memory [(0x0200, 0x6A)] }) =
    some ⟨0x80, 0x00, 0x00, 0xFF, 0x0201, 0xA4, []⟩ := by decide
theorem test_rorZp_SH14 : seen 2 (step { start with
      p := { start.p with c := true }, mem := memory [(0x0010, 0x03), (0x0200, 0x66), (0x0201, 0x10)] }) =
    some ⟨0x00, 0x00, 0x00, 0xFF, 0x0202, 0xA5, [.read 0x0010 0x03, .write 0x0010 0x81]⟩ := by decide
theorem test_incZp_ID1 : seen 2 (step { start with
      a := 0xFF, mem := memory [(0x0010, 0xFF), (0x0200, 0xE6), (0x0201, 0x10)] }) =
    some ⟨0xFF, 0x00, 0x00, 0xFF, 0x0202, 0x26, [.read 0x0010 0xFF, .write 0x0010 0x00]⟩ := by decide
theorem test_decZpx_ID5 : seen 2 (step { start with
      x := 0xFF, mem := memory [(0x000F, 0x01), (0x0200, 0xD6), (0x0201, 0x10)] }) =
    some ⟨0x00, 0xFF, 0x00, 0xFF, 0x0202, 0x26, [.read 0x000F 0x01, .write 0x000F 0x00]⟩ := by decide
theorem test_inx_ID7 : seen 1 (step { start with
      x := 0xFF, mem := memory [(0x0200, 0xE8)] }) =
    some ⟨0x00, 0x00, 0x00, 0xFF, 0x0201, 0x26, []⟩ := by decide
theorem test_iny_ID9 : seen 1 (step { start with
      y := 0xFF, mem := memory [(0x0200, 0xC8)] }) =
    some ⟨0x00, 0x00, 0x00, 0xFF, 0x0201, 0x26, []⟩ := by decide
theorem test_dex_ID11 : seen 1 (step { start with
      p := { start.p with c := true }, mem := memory [(0x0200, 0xCA)] }) =
    some ⟨0x00, 0xFF, 0x00, 0xFF, 0x0201, 0xA5, []⟩ := by decide
theorem test_dey_ID13 : seen 1 (step { start with
      mem := memory [(0x0200, 0x88)] }) =
    some ⟨0x00, 0x00, 0xFF, 0xFF, 0x0201, 0xA4, []⟩ := by decide
theorem test_cmpImm_CP2 : seen 2 (step { start with
      a := 0x40, p := { start.p with v := true }, mem := memory [(0x0200, 0xC9), (0x0201, 0x41)] }) =
    some ⟨0x40, 0x00, 0x00, 0xFF, 0x0202, 0xE4, []⟩ := by decide
theorem test_cpxZp_CP9 : seen 2 (step { start with
      x := 0x10, mem := memory [(0x0010, 0x20), (0x0200, 0xE4), (0x0201, 0x10)] }) =
    some ⟨0x00, 0x10, 0x00, 0xFF, 0x0202, 0xA4, [.read 0x0010 0x20]⟩ := by decide
theorem test_cpyZp_CP12 : seen 2 (step { start with
      p := { start.p with c := true }, mem := memory [(0x0010, 0x01), (0x0200, 0xC4), (0x0201, 0x10)] }) =
    some ⟨0x00, 0x00, 0x00, 0xFF, 0x0202, 0xA4, [.read 0x0010 0x01]⟩ := by decide
theorem test_bcc_BR1 : seen 2 (step { start with
      mem := memory [(0x0200, 0x90), (0x0201, 0x10)] }) =
    some ⟨0x00, 0x00, 0x00, 0xFF, 0x0212, 0x24, []⟩ := by decide
theorem test_bcs_BR3 : seen 2 (step { start with
      p := { start.p with c := true }, mem := memory [(0x0200, 0xB0), (0x0201, 0xFC)] }) =
    some ⟨0x00, 0x00, 0x00, 0xFF, 0x01FE, 0x25, []⟩ := by decide
theorem test_beq_BR5 : seen 2 (step { start with
      p := { start.p with z := true }, mem := memory [(0x0200, 0xF0), (0x0201, 0x7F)] }) =
    some ⟨0x00, 0x00, 0x00, 0xFF, 0x0281, 0x26, []⟩ := by decide
theorem test_bne_BR7 : seen 2 (step { start with
      mem := memory [(0x0200, 0xD0), (0x0201, 0x80)] }) =
    some ⟨0x00, 0x00, 0x00, 0xFF, 0x0182, 0x24, []⟩ := by decide
theorem test_bmi_BR9 : seen 2 (step { start with
      p := { start.p with n := true }, mem := memory [(0x0200, 0x30), (0x0201, 0xFE)] }) =
    some ⟨0x00, 0x00, 0x00, 0xFF, 0x0200, 0xA4, []⟩ := by decide
theorem test_bpl_BR12 : seen 2 (step { start with
      p := { start.p with n := true }, mem := memory [(0x0200, 0x10), (0x0201, 0x05)] }) =
    some ⟨0x00, 0x00, 0x00, 0xFF, 0x0202, 0xA4, []⟩ := by decide
theorem test_bvc_BR13 : seen 2 (step { start with
      mem := memory [(0x0200, 0x50), (0x0201, 0x20)] }) =
    some ⟨0x00, 0x00, 0x00, 0xFF, 0x0222, 0x24, []⟩ := by decide
theorem test_bvs_BR15 : seen 2 (step { start with
      p := { start.p with v := true }, mem := memory [(0x0200, 0x70), (0x0201, 0xF0)] }) =
    some ⟨0x00, 0x00, 0x00, 0xFF, 0x01F2, 0x64, []⟩ := by decide
theorem test_jmpAbs_JC1 : seen 3 (step { start with
      mem := memory [(0x0200, 0x4C), (0x0201, 0x34), (0x0202, 0x12), (0x1234, 0xEA)] }) =
    some ⟨0x00, 0x00, 0x00, 0xFF, 0x1234, 0x24, []⟩ := by decide
theorem test_jmpInd_JC3 : seen 3 (step { start with
      mem := memory [(0x0200, 0x6C), (0x0201, 0xFF), (0x0202, 0x02), (0x02FF, 0x78), (0x0300, 0x99)] }) =
    some ⟨0x00, 0x00, 0x00, 0xFF, 0x6C78, 0x24, [.read 0x02FF 0x78, .read 0x0200 0x6C]⟩ := by decide
theorem test_jsr_JC5 : seen 3 (step { start with
      sp := 0x00, mem := memory [(0x0200, 0x20), (0x0201, 0x34), (0x0202, 0x12)] }) =
    some ⟨0x00, 0x00, 0x00, 0xFE, 0x1234, 0x24, [.write 0x0100 0x02, .write 0x01FF 0x02]⟩ := by decide
theorem test_rts_JC7 : seen 1 (step { start with
      sp := 0xFE, mem := memory [(0x0100, 0xFF), (0x01FF, 0xFF), (0x0200, 0x60)] }) =
    some ⟨0x00, 0x00, 0x00, 0x00, 0x0000, 0x24, [.read 0x01FF 0xFF, .read 0x0100 0xFF]⟩ := by decide
theorem test_brk_JC10 : seen 1 (step { start with
      sp := 0x01, p := { start.p with b := true }, mem := memory [(0x0201, 0xAA), (0xFFFF, 0x80)] }) =
    some ⟨0x00, 0x00, 0x00, 0xFE, 0x8000, 0x34, [.write 0x0101 0x02, .write 0x0100 0x02, .write 0x01FF 0x34,
      .read 0xFFFE 0x00, .read 0xFFFF 0x80]⟩ := by decide
theorem test_rti_JC12 : seen 1 (step { start with
      sp := 0xFC, p := { start.p with n := true, v := true, b := true, d := true, z := true, c := true },
        mem := memory [(0x01FE, 0x34), (0x01FF, 0x12), (0x0200, 0x40)] }) =
    some ⟨0x00, 0x00, 0x00, 0xFF, 0x1234, 0x20, [.read 0x01FD 0x00, .read 0x01FE 0x34,
      .read 0x01FF 0x12]⟩ := by decide
theorem test_pha_ST2 : seen 1 (step { start with
      a := 0x80, sp := 0x00, mem := memory [(0x0200, 0x48)] }) =
    some ⟨0x80, 0x00, 0x00, 0xFF, 0x0201, 0x24, [.write 0x0100 0x80]⟩ := by decide
theorem test_php_ST3 : seen 1 (step { start with
      p := { start.p with n := true, i := false, c := true }, mem := memory [(0x0200, 0x08)] }) =
    some ⟨0x00, 0x00, 0x00, 0xFE, 0x0201, 0xA1, [.write 0x01FF 0xB1]⟩ := by decide
theorem test_pla_ST6 : seen 1 (step { start with
      mem := memory [(0x0100, 0x80), (0x0200, 0x68)] }) =
    some ⟨0x80, 0x00, 0x00, 0x00, 0x0201, 0xA4, [.read 0x0100 0x80]⟩ := by decide
theorem test_plp_ST9 : seen 1 (step { start with
      sp := 0xFE, mem := memory [(0x01FF, 0xDF), (0x0200, 0x28)] }) =
    some ⟨0x00, 0x00, 0x00, 0xFF, 0x0201, 0xFF, [.read 0x01FF 0xDF]⟩ := by decide
theorem test_tax_ST11 : seen 1 (step { start with
      a := 0x80, x := 0x01, mem := memory [(0x0200, 0xAA)] }) =
    some ⟨0x80, 0x80, 0x00, 0xFF, 0x0201, 0xA4, []⟩ := by decide
theorem test_tay_ST13 : seen 1 (step { start with
      a := 0x7F, mem := memory [(0x0200, 0xA8)] }) =
    some ⟨0x7F, 0x00, 0x7F, 0xFF, 0x0201, 0x24, []⟩ := by decide
theorem test_txa_ST14 : seen 1 (step { start with
      a := 0xFF, mem := memory [(0x0200, 0x8A)] }) =
    some ⟨0x00, 0x00, 0x00, 0xFF, 0x0201, 0x26, []⟩ := by decide
theorem test_tya_ST15 : seen 1 (step { start with
      y := 0xFF, mem := memory [(0x0200, 0x98)] }) =
    some ⟨0xFF, 0x00, 0xFF, 0xFF, 0x0201, 0xA4, []⟩ := by decide
theorem test_tsx_ST16 : seen 1 (step { start with
      sp := 0x80, mem := memory [(0x0200, 0xBA)] }) =
    some ⟨0x00, 0x80, 0x00, 0x80, 0x0201, 0xA4, []⟩ := by decide
theorem test_txs_ST18 : seen 1 (step { start with
      p := { start.p with n := true }, mem := memory [(0x0200, 0x9A)] }) =
    some ⟨0x00, 0x00, 0x00, 0x00, 0x0201, 0xA4, []⟩ := by decide
theorem test_sec_FL1 : seen 1 (step { start with
      mem := memory [(0x0200, 0x38)] }) =
    some ⟨0x00, 0x00, 0x00, 0xFF, 0x0201, 0x25, []⟩ := by decide
theorem test_sed_FL3 : seen 1 (step { start with
      mem := memory [(0x0200, 0xF8)] }) =
    some ⟨0x00, 0x00, 0x00, 0xFF, 0x0201, 0x2C, []⟩ := by decide
theorem test_sei_FL4 : seen 1 (step { start with
      p := { start.p with i := false }, mem := memory [(0x0200, 0x78)] }) =
    some ⟨0x00, 0x00, 0x00, 0xFF, 0x0201, 0x24, []⟩ := by decide
theorem test_clc_FL5 : seen 1 (step { start with
      p := { start.p with c := true }, mem := memory [(0x0200, 0x18)] }) =
    some ⟨0x00, 0x00, 0x00, 0xFF, 0x0201, 0x24, []⟩ := by decide
theorem test_cld_FL6 : seen 1 (step { start with
      p := { start.p with d := true }, mem := memory [(0x0200, 0xD8)] }) =
    some ⟨0x00, 0x00, 0x00, 0xFF, 0x0201, 0x24, []⟩ := by decide
theorem test_cli_FL7 : seen 1 (step { start with
      mem := memory [(0x0200, 0x58)] }) =
    some ⟨0x00, 0x00, 0x00, 0xFF, 0x0201, 0x20, []⟩ := by decide
theorem test_clv_FL8 : seen 1 (step { start with
      p := { start.p with n := true, v := true, c := true }, mem := memory [(0x0200, 0xB8)] }) =
    some ⟨0x00, 0x00, 0x00, 0xFF, 0x0201, 0xA5, []⟩ := by decide
theorem test_nop_FL9 : seen 1 (step { start with
      a := 0x12, x := 0x34, y := 0x56, p := { start.p with n := true, v := true, c := true },
        mem := memory [(0x0200, 0xEA)] }) =
    some ⟨0x12, 0x34, 0x56, 0xFF, 0x0201, 0xE5, []⟩ := by decide
theorem test_ldaImm_WR1 : seen 2 (step { start with
      pc := 0xFFFF, mem := memory [(0x0000, 0x42), (0xFFFF, 0xA9)] }) =
    some ⟨0x42, 0x00, 0x00, 0xFF, 0x0001, 0x24, []⟩ := by decide
theorem test_beq_WR5 : seen 2 (step { start with
      pc := 0x0010, p := { start.p with z := true }, mem := memory [(0x0010, 0xF0), (0x0011, 0x80)] }) =
    some ⟨0x00, 0x00, 0x00, 0xFF, 0xFF92, 0x26, []⟩ := by decide
theorem test_illegal_FT1 : seen 0 (step { start with
      a := 0x11, mem := memory [(0x0200, 0x02), (0x0201, 0xEA)] }) =
    some ⟨0x11, 0x00, 0x00, 0xFF, 0x0201, 0x24, [.read 0x0200 0x02]⟩ := by decide
theorem test_illegal_FT1_fault : faultOf (step { start with
      a := 0x11, mem := memory [(0x0200, 0x02), (0x0201, 0xEA)] }) =
    some (.halted, some ⟨.unimplementedOpcode, 0x02, 0x0200⟩) := by decide
theorem test_interrupt_IR1 : seen 0 (step { start with
      p := { start.p with i := false, c := true }, pendIrq := true, mem := memory [(0x0200, 0xEA), (0xFFFB, 0x90),
        (0xFFFD, 0xC0), (0xFFFF, 0x80)] }) =
    some ⟨0x00, 0x00, 0x00, 0xFC, 0x8000, 0x25, [.write 0x01FF 0x02, .write 0x01FE 0x00, .write 0x01FD 0x21,
      .read 0xFFFE 0x00, .read 0xFFFF 0x80]⟩ := by decide
theorem test_interrupt_IR1_latches : latches (step { start with
      p := { start.p with i := false, c := true }, pendIrq := true, mem := memory [(0x0200, 0xEA), (0xFFFB, 0x90),
        (0xFFFD, 0xC0), (0xFFFF, 0x80)] }) =
    some (false, false, false) := by decide
theorem test_nop_IR2 : seen 1 (step { start with
      pendIrq := true, mem := memory [(0x0200, 0xEA), (0xFFFB, 0x90), (0xFFFD, 0xC0), (0xFFFF, 0x80)] }) =
    some ⟨0x00, 0x00, 0x00, 0xFF, 0x0201, 0x24, []⟩ := by decide
theorem test_nop_IR2_latches : latches (step { start with
      pendIrq := true, mem := memory [(0x0200, 0xEA), (0xFFFB, 0x90), (0xFFFD, 0xC0), (0xFFFF, 0x80)] }) =
    some (false, false, true) := by decide
theorem test_interrupt_IR3 : seen 0 (step { start with
      p := { start.p with z := true }, pendNmi := true, mem := memory [(0x0200, 0xEA), (0xFFFB, 0x90), (0xFFFD,
        0xC0), (0xFFFF, 0x80)] }) =
    some ⟨0x00, 0x00, 0x00, 0xFC, 0x9000, 0x26, [.write 0x01FF 0x02, .write 0x01FE 0x00, .write 0x01FD 0x26,
      .read 0xFFFA 0x00, .read 0xFFFB 0x90]⟩ := by decide
theorem test_interrupt_IR3_latches : latches (step { start with
      p := { start.p with z := true }, pendNmi := true, mem := memory [(0x0200, 0xEA), (0xFFFB, 0x90), (0xFFFD,
        0xC0), (0xFFFF, 0x80)] }) =
    some (false, false, false) := by decide
theorem test_interrupt_IR4 : seen 0 (step { start with
      p := { start.p with i := false }, pendNmi := true, pendIrq := true, mem := memory [(0x0200, 0xEA), (0xFFFB,
        0x90), (0xFFFD, 0xC0), (0xFFFF, 0x80)] }) =
    some ⟨0x00, 0x00, 0x00, 0xFC, 0x9000, 0x24, [.write 0x01FF 0x02, .write 0x01FE 0x00, .write 0x01FD 0x20,
      .read 0xFFFA 0x00, .read 0xFFFB 0x90]⟩ := by decide
theorem test_interrupt_IR4_latches : latches (step { start with
      p := { start.p with i := false }, pendNmi := true, pendIrq := true, mem := memory [(0x0200, 0xEA), (0xFFFB,
        0x90), (0xFFFD, 0xC0), (0xFFFF, 0x80)] }) =
    some (false, false, true) := by decide
theorem test_brk_IR15 : seen 1 (step { start with
      pendIrq := true, mem := memory [(0x0201, 0xEA), (0xFFFB, 0x90), (0xFFFD, 0xC0), (0xFFFF, 0x80)] }) =
    some ⟨0x00, 0x00, 0x00, 0xFC, 0x8000, 0x24, [.write 0x01FF 0x02, .write 0x01FE 0x02, .write 0x01FD 0x34,
      .read 0xFFFE 0x00, .read 0xFFFF 0x80]⟩ := by decide
theorem test_brk_IR15_latches : latches (step { start with
      pendIrq := true, mem := memory [(0x0201, 0xEA), (0xFFFB, 0x90), (0xFFFD, 0xC0), (0xFFFF, 0x80)] }) =
    some (false, false, true) := by decide

/-- FT3, the second step: a halted core makes no access. -/
theorem test_halted_core_idles_FT3 : seen 0 (step { start with
      pc := 0x0201, run := .halted, fault := some ⟨.unimplementedOpcode, 0x80, 0x0200⟩
      mem := memory [(0x0200, 0x80), (0x0201, 0xEA)] }) =
    some ⟨0x00, 0x00, 0x00, 0xFF, 0x0201, 0x24, []⟩ := by decide

/-- IR6: what the rule fixes of a reset sequence. -/
theorem test_reset_IR6 : (match step { start with
      sp := 0x80, p := { start.p with i := false }, pendReset := true, pendNmi := true, pendIrq := true
      mem := memory [(0x0200, 0xEA), (0xFFFB, 0x90), (0xFFFD, 0xC0), (0xFFFF, 0x80)] } with
    | .next t => decide (t.pc = 0xC000 ∧ t.p.i = true ∧ t.run = .fetching ∧ t.fault = none ∧ t.pendReset = false ∧
        t.pendNmi = false ∧ t.pendIrq = false ∧ t.trace = [.read 0xFFFC 0x00, .read 0xFFFD 0xC0])
    | .fault f => nomatch f
    | .refused _ => false) = true := by decide

/-- The host's load runs as the first instruction after reset (log 7): LDA #$80 at the address in the reset vector. -/
theorem test_withFetchWord : seen 2 (step (State.reset.withFetchWord 16 0x80A9)) =
    some ⟨0x80, 0x00, 0x00, 0x00, 0x0002, 0xA4, []⟩ := by decide

/-! ### The memory collaborator: RAM, ROM and devices (20_memory.md R30, R31; log 1) -/

/-- A core with a device in page 0x40 and ROM in the top page. -/
def mapped : State :=
  { start with a := 0x5A, mem := memory [(0xFFFE, 0x34), (0xFFFF, 0x12)], devices := 7,
               regions := [⟨0x4000, 0x40FF, .device⟩, ⟨0xFF00, 0xFFFF, .rom⟩] }

/-- The boundaries of the regions, RAM where there is none (log 1). -/
theorem test_backing : [0x3FFF, 0x4000, 0x40FF, 0x4100, 0xFEFF, 0xFF00, 0xFFFF].map mapped.backing =
    [.ram, .device, .device, .ram, .ram, .rom, .rom] := by decide

/-- ROM reads as it holds and takes no write (20_memory.md R31); the write is in the trace. -/
theorem test_rom_takes_no_write : (match exec (.staAbs 0xFFFF) mapped with
    | .next t => decide (t.mem = mapped.mem ∧ t.answer 0xFFFF = 0x12 ∧ t.trace = [.write 0xFFFF 0x5A])
    | .fault f => nomatch f
    | .refused _ => false) = true := by decide

/-- A device read is answered by the device, which may notice it (R31). -/
theorem test_device_read : (match exec (.ldaAbs 0x4000) mapped with
    | .next t => t.a = Config.deviceAnswer 7 0x4000 ∧ t.devices = Config.deviceAfterRead 7 0x4000 ∧ t.mem = mapped.mem
    | .fault f => nomatch f
    | .refused _ => False) := ⟨rfl, rfl, rfl⟩

/-- A read-modify-write reaches a device as one read and one write, in that order (R40). -/
theorem test_device_modify : (match exec (.incAbs 0x40FF) mapped with
    | .next t => t.mem = mapped.mem ∧
        t.devices = Config.deviceAfterWrite (Config.deviceAfterRead 7 0x40FF) 0x40FF (Config.deviceAnswer 7 0x40FF + 1)
    | .fault f => nomatch f
    | .refused _ => False) := ⟨rfl, rfl⟩

/-- The host's load puts RAM where a device stood (log 7). -/
theorem test_withFetchWord_over_device : seen 2 (step ({ mapped with pc := 0x40FF }.withFetchWord 16 0x80A9)) =
    some ⟨0x80, 0x00, 0x00, 0xFF, 0x4101, 0xA4, []⟩ := by decide

/-! ### Witnesses: for each obligation with hypotheses, a concrete case that meets them -/

/-- A core about to run the given bytes, with X and Y at the ends of their range. -/
def about (bytes : List Byte) : State :=
  State.loadBytes { start with a := 0x50, x := 0xFF, y := 0x80, p := { start.p with c := true } } 0x0200 bytes

theorem witness_StatusByteReload :
    (∃ t, exec .plp (about [0x28]) = .next t) ∧ (∃ t, exec .rti (about [0x40]) = .next t) ∧
    ∃ t, Instr.php ≠ .plp ∧ Instr.php ≠ .rti ∧ exec .php (about [0x08]) = .next t :=
  ⟨⟨_, rfl⟩, ⟨_, rfl⟩, _, by decide, by decide, rfl⟩

theorem witness_StackPushAndPull :
    (about []).backing (stackLoc (about []).sp) = .ram ∧ (0x01FE : Word) ≠ stackLoc (about []).sp ∧
    (0x0200 : Word) ≠ stackLoc (about []).sp := by decide

theorem witness_EncodeUndoesDecode : decode [0xBD, 0xFF, 0xFF, 0x02] = .ok (.ldaAbx 0xFFFF) [0x02] := by decide

theorem witness_EveryDescriptorPairsLegally :
    decode [0x6C, 0xFF, 0x02] = .ok (.jmpInd 0x02FF) [] ∧ (Instr.jmpInd 0x02FF).mode = .ind ∧
    decode [0x0A] = .ok .aslAcc [] ∧ Instr.aslAcc.mode = .acc ∧
    decode [0xC0, 0x00] = .ok (.cpyImm 0x00) [] ∧ (Instr.cpyImm 0x00).mode = .imm ∧
    decode [0x70, 0x80] = .ok (.bvs 0x80) [] ∧ (Instr.bvs 0x80).mode = .rel := by decide

/-- An instruction that wraps past the top of the address space, an IRQ waiting behind I. -/
theorem witness_StepRunsTheDecodedInstruction :
    let s := State.loadBytes { start with pc := 0xFFFE, pendIrq := true } 0xFFFE [0xAD, 0x34, 0x12]
    s.Ready ∧ decode (bytesAtPc s) = .ok (.ldaAbs 0x1234) [] :=
  ⟨⟨rfl, rfl, rfl, .inr rfl⟩, by decide⟩

theorem witness_IllegalOpcodeHaltsTheCore :
    ((about [0x02]).Ready ∧ (about [0x02]).answer (about [0x02]).pc ∈ illegalBytes) ∧
    (about [0xFF]).Ready ∧ (about [0xFF]).answer (about [0xFF]).pc ∈ illegalBytes :=
  ⟨⟨⟨rfl, rfl, rfl, .inl rfl⟩, by decide⟩, ⟨rfl, rfl, rfl, .inl rfl⟩, by decide⟩

/-- A halted core with all three requests pending. -/
theorem witness_ResetStep :
    let s : State := { start with run := .halted, pendReset := true, pendNmi := true, pendIrq := true }
    s.pendReset = true := rfl

theorem witness_ResetForgetsTheOldState :
    let s : State := { start with pendReset := true }
    let u : State := { about [] with pendReset := true, run := .halted, mem := [] }
    s ≠ u ∧ s.pendReset = true ∧ u.pendReset = true ∧ s.mem = u.mem ∧ s.regions = u.regions ∧ s.devices = u.devices ∧
    s.resetDraws = u.resetDraws := by decide

theorem witness_NmiEntry :
    let s : State := { start with pendNmi := true, pendIrq := true }
    s.pendReset = false ∧ s.run = .fetching ∧ s.pendNmi = true := by decide

theorem witness_IrqEntry :
    let s : State := { start with sp := 0x00, pendIrq := true, p := { start.p with i := false, b := true } }
    s.pendReset = false ∧ s.run = .fetching ∧ s.pendNmi = false ∧ s.pendIrq = true ∧ s.p.i = false := by decide

theorem witness_MaskedIrqWaits :
    (about [0xEA]).pendReset = false ∧ (about [0xEA]).p.i = true ∧
    ∃ t, step { about [0xEA] with pendIrq := false } = .next t :=
  ⟨by decide, by decide, _, rfl⟩

theorem witness_LatchesAfterAStep :
    (∃ t, (about [0xEA]).pendReset = false ∧ step (about [0xEA]) = .next t) ∧
    (∃ t, step { start with run := .halted, pendNmi := true, pendIrq := true } = .next t) ∧
    ∃ t, exec .nop (about []) = .next t :=
  ⟨⟨_, by decide, rfl⟩, ⟨_, rfl⟩, _, rfl⟩

theorem witness_HaltedCoreIdles :
    let s : State := { start with run := .halted, pendNmi := true, pendIrq := true }
    s.pendReset = false ∧ s.run = .halted := by decide

theorem witness_CliTakesEffectAtTheNextBoundary :
    let s : State := { about [0x58] with pendIrq := true }
    s.pendReset = false ∧ s.run = .fetching ∧ s.pendNmi = false ∧ s.pendIrq = true ∧ s.p.i = true ∧
    s.answer s.pc = 0x58 := by decide

theorem witness_NmiNestsOnAnIrqEntry :
    let s : State := { start with sp := 0x02, pendIrq := true, p := { start.p with i := false } }
    s.pendReset = false ∧ s.run = .fetching ∧ s.pendNmi = false ∧ s.pendIrq = true ∧ s.p.i = false := by decide

theorem witness_EffectiveAddresses :
    (Instr.stxZpy 0xFF).mode = .zpy ∧ (Instr.jmpInd 0xFFFF).mode = .ind ∧
    pageCrossed (.abx 0x12FF) (about []) = true ∧ pageCrossed (.aby 0x127F) (about []) = false ∧
    pageCrossed (.aby 0x1280) (about []) = true := by decide

theorem witness_LoadsCopyTheOperand :
    (Instr.ldaIzy 0xFF).mnemonic = .lda ∧ (Instr.ldxZpy 0xFF).mnemonic = .ldx ∧ (Instr.ldyAbx 0xFFFF).mnemonic = .ldy := by
  decide

theorem witness_LogicOperations :
    (Instr.andImm 0x00).mnemonic = .and ∧ (Instr.oraIzx 0x80).mnemonic = .ora ∧ (Instr.eorAby 0xFFFF).mnemonic = .eor := by
  decide

theorem witness_BitOnlyTests : (Instr.bitZp 0x10).mnemonic = .bit ∧ (Instr.bitAbs 0xFFFF).mnemonic = .bit := by decide

theorem witness_Compares :
    (Instr.cmpAbs 0x1234).mnemonic = .cmp ∧ (Instr.cpxZp 0x10).mnemonic = .cpx ∧ (Instr.cpyImm 0xFF).mnemonic = .cpy := by
  decide

theorem witness_StoresWriteOneByte :
    (Instr.staIzx 0xFF).mnemonic = .sta ∧ (Instr.stxZpy 0xFF).mnemonic = .stx ∧ (Instr.styAbs 0xFFFF).mnemonic = .sty := by
  decide

theorem witness_ShiftsAndRotates :
    Instr.aslAcc.mnemonic = .asl ∧ (Instr.lsrZp 0xFF).mnemonic = .lsr ∧ (Instr.rolAbs 0xFFFF).mnemonic = .rol ∧
    (Instr.rorAbx 0xFFFF).mnemonic = .ror := by decide

theorem witness_IncrementsAndDecrements :
    (Instr.incZp 0xFF).mnemonic = .inc ∧ (Instr.decAbx 0xFFFF).mnemonic = .dec := by decide

theorem witness_BranchesTakeOrFallThrough :
    (Instr.bcc 0x80).mnemonic = .bcc ∧ (Instr.bcs 0x7F).mnemonic = .bcs ∧ (Instr.beq 0x00).mnemonic = .beq ∧
    (Instr.bne 0xFF).mnemonic = .bne ∧ (Instr.bmi 0xFE).mnemonic = .bmi ∧ (Instr.bpl 0x80).mnemonic = .bpl ∧
    (Instr.bvc 0x7F).mnemonic = .bvc ∧ (Instr.bvs 0x80).mnemonic = .bvs := by decide

theorem witness_AdcAddsWithCarry : (Instr.adcIzy 0xFF).mnemonic = .adc ∧ (about []).p.d = false := by decide

theorem witness_SbcSubtractsWithBorrow : (Instr.sbcAbs 0xFFFF).mnemonic = .sbc ∧ (about []).p.d = false := by decide

theorem witness_DecimalModeHaltsAdcAndSbc :
    let s : State := { about [0xE5, 0x10] with p := { start.p with d := true } }
    (Instr.sbcZp 0x10).mnemonic = .sbc ∧ s.p.d = true ∧ s.Ready ∧ decode (bytesAtPc s) = .ok (.sbcZp 0x10) [0x00] ∧
    (Instr.nop.mnemonic ≠ .adc ∧ Instr.nop.mnemonic ≠ .sbc) ∧ (∃ t, exec .nop s = .next t) ∧
    (about []).p.d = false ∧ ∃ t, exec (.adcImm 0x01) (about []) = .next t :=
  ⟨rfl, rfl, ⟨rfl, rfl, rfl, .inl rfl⟩, by decide, by decide, ⟨_, rfl⟩, rfl, _, rfl⟩

/-- The rule's vector AR23: 7F plus 7F, through FE with overflow. -/
theorem witness_SbcUndoesAdc :
    let s : State := { start with a := 0x7F }
    let t : State := { s with a := 0xFE, p := { s.p with n := true, v := true } }
    (Instr.adcImm 0x7F).mnemonic = .adc ∧ (Instr.sbcImm 0x7F).mnemonic = .sbc ∧
    (Instr.adcImm 0x7F).operand = .src (.imm 0x7F) ∧ (Instr.sbcImm 0x7F).operand = .src (.imm 0x7F) ∧
    s.p.d = false ∧ s.p.c = false ∧ exec (.adcImm 0x7F) s = .next t ∧
    operandByte (.imm 0x7F) t = operandByte (.imm 0x7F) s ∧
    ∃ u, exec (.sbcImm 0x7F) { t with p := { t.p with c := true } } = .next u :=
  ⟨rfl, rfl, rfl, rfl, rfl, rfl, congrArg Host.Outcome.next (by decide), rfl, _, rfl⟩

theorem witness_IndirectJumpWrapsInItsPage :
    loByte 0x02FE ≠ 0xFF ∧ loByte 0x0300 ≠ 0xFF ∧ loByte 0x02FF = 0xFF ∧ loByte 0xFFFF = 0xFF := by decide

theorem witness_JsrPushesTheReturnAddress :
    StackIsRam (about []) ∧
    (0x01FD : Word) ≠ stackLoc 0xFF ∧ (0x01FD : Word) ≠ stackLoc (0xFF - 1) ∧
    (0x0101 : Word) ≠ stackLoc 0x00 ∧ (0x0101 : Word) ≠ stackLoc (0x00 - 1) :=
  ⟨fun _ => rfl, by decide⟩

/-- Pulls of a state after the JSR with another A are answered with the bytes it pushed, its stack page being RAM. -/
theorem witness_RtsReturnsAfterTheJsr :
    let s := about []
    let t := s.call 0x1234
    let u := t.setA 0x77
    exec (.jsr 0x1234) s = .next t ∧ u ≠ t ∧ u.sp = t.sp ∧ pulled 2 u = [loByte (s.pc - 1), hiByte (s.pc - 1)] ∧
    StackIsRam s ∧ u.regions = s.regions ∧ ∀ k ∈ [s.sp, s.sp - 1], u.peek (stackLoc k) = t.peek (stackLoc k) :=
  ⟨rfl, by decide, by decide, by decide, fun _ => rfl, rfl, by decide⟩

theorem witness_RtiAfterBrk :
    let s := about []
    let t := (s.setPc 0x0201).service Config.vecIrq true
    let u := t.setA 0x77
    exec .brk s = .next t ∧ u ≠ t ∧ u.sp = t.sp ∧
    pulled 3 u = [s.p.toByte ||| 0x10, loByte (s.pc + 1), hiByte (s.pc + 1)] ∧ StackIsRam s ∧ u.regions = s.regions ∧
    ∀ k ∈ [s.sp, s.sp - 1, s.sp - 2], u.peek (stackLoc k) = t.peek (stackLoc k) :=
  ⟨congrArg Host.Outcome.next (by decide), by decide, by decide, by decide, fun _ => rfl, rfl, by decide⟩

/-- The stack wraps inside its page. -/
theorem witness_RtiAfterAnInterrupt :
    let s : State := { about [] with pendNmi := true, sp := 0x01 }
    let u := s.serviceNmi.setA 0x77
    u ≠ s.serviceNmi ∧ u.sp = s.serviceNmi.sp ∧ pulled 3 u = [s.p.toByte &&& 0xEF, loByte s.pc, hiByte s.pc] ∧
    StackIsRam s ∧ u.regions = s.regions ∧
    ∀ k ∈ [s.sp, s.sp - 1, s.sp - 2], u.peek (stackLoc k) = s.serviceNmi.peek (stackLoc k) :=
  ⟨by decide, by decide, by decide, fun _ => rfl, rfl, by decide⟩

/-- NOP is in no list of writers, so it meets every clause at once. -/
theorem witness_RegistersHaveOnlyTheirWriters :
    (∃ t, exec .nop (about []) = .next t) ∧ Instr.nop.operand ≠ .acc ∧
    Instr.nop.mnemonic ∉ [Mnemonic.lda, .adc, .sbc, .and, .ora, .eor, .pla, .txa, .tya, .ldx, .inx, .dex, .tax, .tsx,
      .ldy, .iny, .dey, .tay, .pha, .php, .plp, .jsr, .rts, .brk, .rti, .txs, .bcc, .bcs, .beq, .bne, .bmi, .bpl,
        .bvc,
      .bvs, .jmp] :=
  ⟨⟨_, rfl⟩, by decide, by decide⟩

theorem witness_FlagsHaveOnlyTheirWriters :
    (∃ t, exec .nop (about []) = .next t) ∧
    Instr.nop.mnemonic ∉ [Mnemonic.lda, .ldx, .ldy, .adc, .sbc, .and, .ora, .eor, .asl, .lsr, .rol, .ror, .inc,
      .dec, .inx,
      .iny, .dex, .dey, .pla, .tax, .tay, .txa, .tya, .tsx, .cmp, .cpx, .cpy, .bit, .plp, .rti, .clv, .sed, .cld,
        .sei,
      .cli, .brk, .sec, .clc] :=
  ⟨⟨_, rfl⟩, by decide⟩

/-- A store, a push and a form that stores nothing, each with an address beside the stored ones, over RAM; and a store
to ROM. -/
theorem witness_OnlyTheStoredBytesChange :
    (about []).backing 0x00FD ≠ .device ∧
    (∃ t,
      exec (.staAbx 0xFFFF) (about []) = .next t) ∧ (0x00FD : Word) ∉ storedAddresses (.staAbx 0xFFFF) (about []) ∧
    (0x00FE : Word) ∈ storedAddresses (.staAbx 0xFFFF) (about []) ∧
    (∃ t, exec .brk (about []) = .next t) ∧ (0x01FC : Word) ∉ storedAddresses .brk (about []) ∧
    (∃ t, exec (.cmpZp 0x10) (about []) = .next t) ∧ (0x0010 : Word) ∉ storedAddresses (.cmpZp 0x10) (about []) ∧
    mapped.backing 0xFFFF = .rom ∧ ∃ t, exec (.staAbs 0xFFFF) mapped = .next t :=
  ⟨by decide, ⟨_, rfl⟩, by decide, by decide, ⟨_, rfl⟩, by decide, ⟨_, rfl⟩, by decide, by decide, _, rfl⟩

theorem witness_TheTraceAccountsForMemory : ∃ t, step (about [0x48]) = .next t := ⟨_, rfl⟩

/-- A running core, and a halted one with its record, meet the invariant. -/
theorem witness_Inv :
    (about [0x48]).Inv ∧
    ({ about [0x02] with run := .halted, fault := some ⟨.unimplementedOpcode, 0x02, 0x0200⟩ } : State).Inv ∧
    ({ about [0x69] with run := .halted, fault := some ⟨.decimalModeUnsupported, 0x69, 0x0200⟩ } : State).Inv := by
  refine ⟨⟨by decide, by decide, ?_⟩, ⟨by decide, by decide, ?_⟩, ⟨by decide, by decide, ?_⟩⟩ <;> intro f hf
  · have : (about [0x48]).fault = none := by decide
    rw [this] at hf
    cases hf
  · obtain rfl : f = ⟨.unimplementedOpcode, 0x02, 0x0200⟩ := by simpa using hf.symm
    rfl
  · obtain rfl : f = ⟨.decimalModeUnsupported, 0x69, 0x0200⟩ := by simpa using hf.symm
    show (0x69 : Byte) ∈ _
    decide

theorem witness_EveryStepKeepsTheInvariant : (about [0x48]).Inv ∧ ∃ t, step (about [0x48]) = .next t :=
  ⟨witness_Inv.1, _, rfl⟩

/-- A request, then a byte written from outside. -/
theorem witness_EveryReachableStateMeetsTheInvariant :
    (about [0x48]).Inv ∧ ∃ t, t ≠ about [0x48] ∧ Reaches (about [0x48]) t :=
  ⟨witness_Inv.1, { about [0x48] with pendNmi := true, mem := (about [0x48]).mem.writeByte 0x0300 0x01 }, by decide,
    .act (.writeByte 0x0300 0x01) (.act (.request .nmi) .refl rfl) rfl⟩

theorem witness_TheLiveBFlagInfluencesNothing :
    let s := about [0x08]
    let u : State := { s with p := { s.p with b := true } }
    s ≠ u ∧ SameButB s u ∧ ∃ t, step s = .next t :=
  ⟨by decide, rfl, _, rfl⟩

end Sys2Proof.Tests
end

section
/-! SUPPORT. The next state of every instruction, by mnemonic and operand: one table of 62 cases in place of the 151
arms of `exec`. A statement over all instructions is a case split of `Runs`, and a case says what is computed with the
shared operations of Machine/. -/

namespace Sys2Proof.Machine

/-! ### The state that each shared operation of the instruction families answers

Each is tied to its operation by `exec_runs`. -/

namespace Next

/-- After `load` (40_load_store.md R80 to R82). -/
def load (set : State → Byte → State) (o : Src) (s : State) : State :=
  let (v, s) := readSrc o s
  (set s v).setP (s.p.setNZ v)

/-- After `store` (R83 to R85). -/
def store (v : Byte) (m : AddrMode) (s : State) : State := (resolve m s).2.memWrite (resolve m s).1 v

/-- After `addOrRaiseDecimal` (41_arithmetic.md R90 to R92). -/
def add (adjust : Byte → Byte) (opc : Byte) (o : Src) (s : State) : State :=
  if s.p.d then (readSrc o s).2.raise .decimalModeUnsupported opc (opcodeAddr o s)
  else (readSrc o s).2.addToA (adjust (readSrc o s).1)

/-- After `logic` (42_logic.md R95 to R97). -/
def logic (op : Byte → Byte → Byte) (o : Src) (s : State) : State :=
  let (m, s) := readSrc o s
  let r := op s.a m
  (s.setA r).setP (s.p.setNZ r)

/-- After `bitTest` (R98). -/
def bitTest (o : Src) (s : State) : State :=
  let (m, s) := readSrc o s
  s.setP (s.p.afterBit s.a m)

/-- After `compareWith` (45_compare.md R113 to R115). -/
def compare (r : Byte) (o : Src) (s : State) : State :=
  let (m, s) := readSrc o s
  s.setP (s.p.afterCompare r m)

/-- After `modifyReg` (43_shift_rotate.md R100 in mode acc; 44_inc_dec.md R108 to R111). -/
def modifyReg (set : State → Byte → State) (v : Byte) (f : Byte → Flags → Byte × Flags) (s : State) : State :=
  (set s (f v s.p).1).setP (f v s.p).2

/-- After `modifyMem` (R100, R106, R107). -/
def modifyMem (f : Byte → Flags → Byte × Flags) (m : AddrMode) (s : State) : State :=
  let (ea, s) := resolve m s
  let (v, s) := s.memRead ea
  let (r, p) := f v s.p
  (s.setP p).memWrite ea r

/-- After `branchIf` (46_branch.md R117). -/
def branch (cond : Bool) (d8 : Byte) (s : State) : State := if cond then s.setPc (branchTarget d8 s) else s

/-- After `jump` (47_jump_call_interrupt.md R126). -/
def jump (m : AddrMode) (s : State) : State := (resolve m s).2.setPc (resolve m s).1

/-- After `transfer` (48_stack_transfer.md R136 to R140). -/
def transfer (set : State → Byte → State) (v : Byte) (s : State) : State := (set s v).setP (s.p.setNZ v)

end Next

theorem addOrRaiseDecimal_eq (adjust : Byte → Byte) (opc : Byte) (o : Src) (s : State) :
    addOrRaiseDecimal adjust opc o s = .next (Next.add adjust opc o s) := by
  cases h : s.p.d with
  | true => simp [addOrRaiseDecimal_decimal h, Next.add, h]
  | false => simp [addOrRaiseDecimal_binary h, Next.add, h]

/-- `Runs opc mn o f`: from a state `s`, an instruction of mnemonic `mn` with operand `o` and opcode byte `opc`
answers the state `f s`. -/
inductive Runs (opc : Byte) : Mnemonic → Operand → (State → State) → Prop
  | lda (o : Src) : Runs opc .lda (.src o) (Next.load State.setA o)
  | ldx (o : Src) : Runs opc .ldx (.src o) (Next.load State.setX o)
  | ldy (o : Src) : Runs opc .ldy (.src o) (Next.load State.setY o)
  | sta (m : AddrMode) : Runs opc .sta (.src (.mem m)) (fun s => Next.store s.a m s)
  | stx (m : AddrMode) : Runs opc .stx (.src (.mem m)) (fun s => Next.store s.x m s)
  | sty (m : AddrMode) : Runs opc .sty (.src (.mem m)) (fun s => Next.store s.y m s)
  | adc (o : Src) : Runs opc .adc (.src o) (Next.add id opc o)
  | sbc (o : Src) : Runs opc .sbc (.src o) (Next.add onesComplement opc o)
  | and (o : Src) : Runs opc .and (.src o) (Next.logic (· &&& ·) o)
  | ora (o : Src) : Runs opc .ora (.src o) (Next.logic (· ||| ·) o)
  | eor (o : Src) : Runs opc .eor (.src o) (Next.logic (· ^^^ ·) o)
  | bit (o : Src) : Runs opc .bit (.src o) (Next.bitTest o)
  | aslAcc : Runs opc .asl .acc (fun s => Next.modifyReg State.setA s.a asl s)
  | lsrAcc : Runs opc .lsr .acc (fun s => Next.modifyReg State.setA s.a lsr s)
  | rolAcc : Runs opc .rol .acc (fun s => Next.modifyReg State.setA s.a rol s)
  | rorAcc : Runs opc .ror .acc (fun s => Next.modifyReg State.setA s.a ror s)
  | asl (m : AddrMode) : Runs opc .asl (.src (.mem m)) (Next.modifyMem asl m)
  | lsr (m : AddrMode) : Runs opc .lsr (.src (.mem m)) (Next.modifyMem lsr m)
  | rol (m : AddrMode) : Runs opc .rol (.src (.mem m)) (Next.modifyMem rol m)
  | ror (m : AddrMode) : Runs opc .ror (.src (.mem m)) (Next.modifyMem ror m)
  | inc (m : AddrMode) : Runs opc .inc (.src (.mem m)) (Next.modifyMem inc m)
  | dec (m : AddrMode) : Runs opc .dec (.src (.mem m)) (Next.modifyMem dec m)
  | inx : Runs opc .inx .none (fun s => Next.modifyReg State.setX s.x inc s)
  | iny : Runs opc .iny .none (fun s => Next.modifyReg State.setY s.y inc s)
  | dex : Runs opc .dex .none (fun s => Next.modifyReg State.setX s.x dec s)
  | dey : Runs opc .dey .none (fun s => Next.modifyReg State.setY s.y dec s)
  | cmp (o : Src) : Runs opc .cmp (.src o) (fun s => Next.compare s.a o s)
  | cpx (o : Src) : Runs opc .cpx (.src o) (fun s => Next.compare s.x o s)
  | cpy (o : Src) : Runs opc .cpy (.src o) (fun s => Next.compare s.y o s)
  | bcc (d8 : Byte) : Runs opc .bcc (.rel d8) (fun s => Next.branch (!s.p.c) d8 s)
  | bcs (d8 : Byte) : Runs opc .bcs (.rel d8) (fun s => Next.branch s.p.c d8 s)
  | beq (d8 : Byte) : Runs opc .beq (.rel d8) (fun s => Next.branch s.p.z d8 s)
  | bne (d8 : Byte) : Runs opc .bne (.rel d8) (fun s => Next.branch (!s.p.z) d8 s)
  | bmi (d8 : Byte) : Runs opc .bmi (.rel d8) (fun s => Next.branch s.p.n d8 s)
  | bpl (d8 : Byte) : Runs opc .bpl (.rel d8) (fun s => Next.branch (!s.p.n) d8 s)
  | bvc (d8 : Byte) : Runs opc .bvc (.rel d8) (fun s => Next.branch (!s.p.v) d8 s)
  | bvs (d8 : Byte) : Runs opc .bvs (.rel d8) (fun s => Next.branch s.p.v d8 s)
  | jmp (m : AddrMode) : Runs opc .jmp (.src (.mem m)) (Next.jump m)
  | jsr (addr : Word) : Runs opc .jsr (.src (.mem (.abs addr))) (State.call · addr)
  | rts : Runs opc .rts .none State.returnFromCall
  | brk : Runs opc .brk .none (fun s => (s.setPc (s.pc + 1)).service Config.vecIrq true)
  | rti : Runs opc .rti .none State.returnFromTrap
  | pha : Runs opc .pha .none (fun s => s.push s.a)
  | php : Runs opc .php .none (fun s => s.push s.p.pushedBySoftware)
  | pla : Runs opc .pla .none State.pullA
  | plp : Runs opc .plp .none State.pullP
  | tax : Runs opc .tax .none (fun s => Next.transfer State.setX s.a s)
  | tay : Runs opc .tay .none (fun s => Next.transfer State.setY s.a s)
  | txa : Runs opc .txa .none (fun s => Next.transfer State.setA s.x s)
  | tya : Runs opc .tya .none (fun s => Next.transfer State.setA s.y s)
  | tsx : Runs opc .tsx .none (fun s => Next.transfer State.setX s.sp s)
  | txs : Runs opc .txs .none (fun s => s.setSp s.x)
  | sec : Runs opc .sec .none (fun s => s.setP { s.p with c := true })
  | sed : Runs opc .sed .none (fun s => s.setP { s.p with d := true })
  | sei : Runs opc .sei .none (fun s => s.setP { s.p with i := true })
  | clc : Runs opc .clc .none (fun s => s.setP { s.p with c := false })
  | cld : Runs opc .cld .none (fun s => s.setP { s.p with d := false })
  | cli : Runs opc .cli .none (fun s => s.setP { s.p with i := false })
  | clv : Runs opc .clv .none (fun s => s.setP { s.p with v := false })
  | nop : Runs opc .nop .none id

/-- Every instruction completes, from every state, as its row of the table says. -/
theorem exec_runs (i : Instr) : ∃ f, Runs (opcodeOf i) i.mnemonic i.operand f ∧ ∀ s, exec i s = .next (f s) := by
  cases i with
  | adcImm | adcZp | adcZpx | adcAbs | adcAbx | adcAby | adcIzx | adcIzy =>
    refine ⟨_, .adc _, fun s => ?_⟩
    rw [← addOrRaiseDecimal_eq]
    rfl
  | sbcImm | sbcZp | sbcZpx | sbcAbs | sbcAbx | sbcAby | sbcIzx | sbcIzy =>
    refine ⟨_, .sbc _, fun s => ?_⟩
    rw [← addOrRaiseDecimal_eq]
    rfl
  | _ =>
    constructor
    constructor
    · constructor
    · exact fun s => rfl

/-- The same, from an outcome at hand. -/
theorem runs_of_exec {i : Instr} {s t : State} (h : exec i s = .next t) :
    ∃ f, Runs (opcodeOf i) i.mnemonic i.operand f ∧ f s = t := by
  obtain ⟨f, hf, e⟩ := exec_runs i
  exact ⟨f, hf, by simpa [e] using h⟩

/-- Every instruction's opcode byte is one that the second table of R54 gives its mnemonic. -/
theorem opcodeOf_mem (i : Instr) : opcodeOf i ∈ (opcodesOf i.mnemonic).map Prod.snd := by
  have h : (i.mode, opcodeOf i) ∈ opcodesOf i.mnemonic := by
    cases i <;> exact List.contains_iff_mem.mp rfl
  exact List.mem_map_of_mem h

end Sys2Proof.Machine
end

section
/-! SUPPORT. What an instruction can change: each register, flag, latch and the fault record, with the instructions
that write it. -/

namespace Sys2Proof.Machine

namespace State

variable (s : State)

theorem call_eq (a : Word) : s.call a = ((s.push (hiByte (s.pc - 1))).push (loByte (s.pc - 1))).setPc a := rfl

theorem returnFromCall_eq :
    s.returnFromCall = s.pull.2.pull.2.setPc (joinBytes s.pull.2.pull.1 s.pull.1 + 1) := rfl

theorem pullA_eq : s.pullA = (s.pull.2.setA s.pull.1).setP (s.p.setNZ s.pull.1) := rfl

theorem pullP_eq : s.pullP = s.pull.2.setP (.fromByte s.pull.1) := rfl

theorem addToA_eq (m : Byte) : s.addToA m = (s.setA (addResult s.a m s.p.c)).setP (s.p.afterAdd s.a m) := rfl

@[simp] theorem memWrite_a (a : Word) (v : Byte) : (s.memWrite a v).a = s.a := rfl
@[simp] theorem memWrite_x (a : Word) (v : Byte) : (s.memWrite a v).x = s.x := rfl
@[simp] theorem memWrite_y (a : Word) (v : Byte) : (s.memWrite a v).y = s.y := rfl
@[simp] theorem memWrite_sp (a : Word) (v : Byte) : (s.memWrite a v).sp = s.sp := rfl
@[simp] theorem memWrite_pc (a : Word) (v : Byte) : (s.memWrite a v).pc = s.pc := rfl
@[simp] theorem memWrite_p (a : Word) (v : Byte) : (s.memWrite a v).p = s.p := rfl
@[simp] theorem memWrite_run (a : Word) (v : Byte) : (s.memWrite a v).run = s.run := rfl
@[simp] theorem memWrite_pendReset (a : Word) (v : Byte) : (s.memWrite a v).pendReset = s.pendReset := rfl
@[simp] theorem memWrite_pendNmi (a : Word) (v : Byte) : (s.memWrite a v).pendNmi = s.pendNmi := rfl
@[simp] theorem memWrite_pendIrq (a : Word) (v : Byte) : (s.memWrite a v).pendIrq = s.pendIrq := rfl
@[simp] theorem memWrite_fault (a : Word) (v : Byte) : (s.memWrite a v).fault = s.fault := rfl
@[simp] theorem memWrite_regions (a : Word) (v : Byte) : (s.memWrite a v).regions = s.regions := rfl
@[simp] theorem memWrite_resetDraws (a : Word) (v : Byte) : (s.memWrite a v).resetDraws = s.resetDraws := rfl

end State

/-! ### The flags after a change of one byte (43_shift_rotate.md R101 to R104, 44_inc_dec.md R106 to R111) -/

@[simp] theorem asl_flags (v : Byte) (p : Flags) : (asl v p).2 = { p with c := v.getLsbD 7 }.setNZ (v <<< 1) := rfl
@[simp] theorem lsr_flags (v : Byte) (p : Flags) : (lsr v p).2 = { p with c := v.getLsbD 0 }.setNZ (v >>> 1) := rfl
@[simp] theorem rol_flags (v : Byte) (p : Flags) :
    (rol v p).2 = { p with c := v.getLsbD 7 }.setNZ ((v <<< 1) ||| BitVec.ofNat 8 p.c.toNat) := rfl
@[simp] theorem ror_flags (v : Byte) (p : Flags) :
    (ror v p).2 = { p with c := v.getLsbD 0 }.setNZ ((v >>> 1) ||| (BitVec.ofNat 8 p.c.toNat <<< 7)) := rfl
@[simp] theorem inc_flags (v : Byte) (p : Flags) : (inc v p).2 = p.setNZ (v + 1) := rfl
@[simp] theorem dec_flags (v : Byte) (p : Flags) : (dec v p).2 = p.setNZ (v - 1) := rfl

/-! ### The frame of an instruction -/

/-- The registers that an instruction keeps (10_state.md R10 to R12). -/
def KeepsRegisters (mn : Mnemonic) (o : Operand) (s t : State) : Prop :=
  (mn ∉ [.lda, .adc, .sbc, .and, .ora, .eor, .pla, .txa, .tya] → o ≠ .acc → t.a = s.a) ∧
  (mn ∉ [.ldx, .inx, .dex, .tax, .tsx] → t.x = s.x) ∧
  (mn ∉ [.ldy, .iny, .dey, .tay] → t.y = s.y) ∧
  (mn ∉ [.pha, .php, .pla, .plp, .jsr, .rts, .brk, .rti, .txs] → t.sp = s.sp) ∧
  (mn ∉ [.bcc, .bcs, .beq, .bne, .bmi, .bpl, .bvc, .bvs, .jmp, .jsr, .rts, .brk, .rti] → t.pc = s.pc)

/-- The flags that an instruction keeps (10_state.md R14). -/
def KeepsFlags (mn : Mnemonic) (s t : State) : Prop :=
  (mn ∉ [.lda, .ldx, .ldy, .adc, .sbc, .and, .ora, .eor, .asl, .lsr, .rol, .ror, .inc, .dec, .inx, .iny, .dex, .dey,
    .pla, .tax, .tay, .txa, .tya, .tsx, .cmp, .cpx, .cpy, .bit, .plp, .rti] → t.p.n = s.p.n ∧ t.p.z = s.p.z) ∧
  (mn ∉ [.adc, .sbc, .bit, .clv, .plp, .rti] → t.p.v = s.p.v) ∧
  (mn ∉ [.plp, .rti] → t.p.b = s.p.b) ∧
  (mn ∉ [.sed, .cld, .plp, .rti] → t.p.d = s.p.d) ∧
  (mn ∉ [.sei, .cli, .brk, .plp, .rti] → t.p.i = s.p.i) ∧
  (mn ∉ [.adc, .sbc, .asl, .lsr, .rol, .ror, .cmp, .cpx, .cpy, .sec, .clc, .plp, .rti] → t.p.c = s.p.c)

/-- ADC and SBC with D = 1 halt the core with a record; every other instruction keeps the run state and the record
(41_arithmetic.md R91, 60_exceptions.md R162). -/
def RaisesOnlyDecimal (opc : Byte) (mn : Mnemonic) (s t : State) : Prop :=
  ((mn = .adc ∨ mn = .sbc) ∧ s.p.d = true →
    t.run = .halted ∧ ∃ a, t.fault = some ⟨.decimalModeUnsupported, opc, a⟩) ∧
  (¬((mn = .adc ∨ mn = .sbc) ∧ s.p.d = true) → t.run = s.run ∧ t.fault = s.fault)

/-- The instructions that leave storage alone: all but the stores, the changes of a byte and the pushes. -/
def KeepsMemory (mn : Mnemonic) (s t : State) : Prop :=
  mn ∉ [.sta, .stx, .sty, .asl, .lsr, .rol, .ror, .inc, .dec, .pha, .php, .jsr, .brk] → t.mem = s.mem

/-- What no instruction writes: the request latches (10_state.md R19), the backings and the count of resets. -/
def KeepsLatches (s t : State) : Prop :=
  t.pendReset = s.pendReset ∧ t.pendNmi = s.pendNmi ∧ t.pendIrq = s.pendIrq ∧ t.regions = s.regions ∧
    t.resetDraws = s.resetDraws

/-- What an instruction can change, said once for all the groups, so that each case of the table is computed once. -/
theorem Runs.frame {opc : Byte} {mn : Mnemonic} {o : Operand} {f : State → State} (h : Runs opc mn o f) (s : State) :
    KeepsRegisters mn o s (f s) ∧ KeepsFlags mn s (f s) ∧ RaisesOnlyDecimal opc mn s (f s) ∧ KeepsMemory mn s (f s) ∧
      KeepsLatches s (f s) := by
  unfold KeepsRegisters KeepsFlags RaisesOnlyDecimal KeepsMemory KeepsLatches
  cases h with
  | lda o | ldx o | ldy o => simp [Next.load]
  | sta m | stx m | sty m => simp [Next.store]
  | adc o | sbc o => cases hd : s.p.d <;> simp [Next.add, hd, State.raise_eq, State.addToA_eq]
  | and o | ora o | eor o => simp [Next.logic]
  | bit o => simp [Next.bitTest]
  | aslAcc | lsrAcc | rolAcc | rorAcc | inx | iny | dex | dey => simp [Next.modifyReg]
  | asl m | lsr m | rol m | ror m | inc m | dec m => simp [Next.modifyMem]
  | cmp o | cpx o | cpy o => simp [Next.compare]
  | bcc d8 | bcs d8 | beq d8 | bne d8 | bmi d8 | bpl d8 | bvc d8 | bvs d8 => simp [Next.branch, apply_ite]
  | jmp m => simp [Next.jump]
  | jsr addr => simp [State.call_eq]
  | rts => simp [State.returnFromCall_eq, State.pull_eq]
  | brk => simp [State.service_eq, State.read16_eq]
  | rti => simp [State.returnFromTrap_eq, State.pull_eq]
  | pla => simp [State.pullA_eq, State.pull_eq]
  | plp => simp [State.pullP_eq, State.pull_eq]
  | tax | tay | txa | tya | tsx => simp [Next.transfer]
  | pha | php | txs | sec | sed | sei | clc | cld | cli | clv | nop => simp

section

variable {i : Instr} {s t : State}

theorem exec_keepsRegisters (h : exec i s = .next t) : KeepsRegisters i.mnemonic i.operand s t := by
  obtain ⟨f, hf, rfl⟩ := runs_of_exec h
  obtain ⟨hr, -, -, -, -⟩ := hf.frame s
  exact hr

theorem exec_keepsFlags (h : exec i s = .next t) : KeepsFlags i.mnemonic s t := by
  obtain ⟨f, hf, rfl⟩ := runs_of_exec h
  obtain ⟨-, hp, -, -, -⟩ := hf.frame s
  exact hp

theorem exec_raisesOnlyDecimal (h : exec i s = .next t) : RaisesOnlyDecimal (opcodeOf i) i.mnemonic s t := by
  obtain ⟨f, hf, rfl⟩ := runs_of_exec h
  obtain ⟨-, -, hd, -, -⟩ := hf.frame s
  exact hd

theorem exec_keepsMemory (h : exec i s = .next t) : KeepsMemory i.mnemonic s t := by
  obtain ⟨f, hf, rfl⟩ := runs_of_exec h
  obtain ⟨-, -, -, hm, -⟩ := hf.frame s
  exact hm

theorem exec_keepsLatches (h : exec i s = .next t) : KeepsLatches s t := by
  obtain ⟨f, hf, rfl⟩ := runs_of_exec h
  obtain ⟨-, -, -, -, hl⟩ := hf.frame s
  exact hl

end

end Sys2Proof.Machine
end

section
/-! SUPPORT. Memory stays in canonical form under every instruction. -/

namespace Sys2Proof.Machine

theorem State.push_mem_wf {s : State} (h : s.mem.wf) (v : Byte) : (s.push v).mem.wf := memWrite_mem_wf s h _ v

theorem State.service_mem_wf {s : State} (h : s.mem.wf) (vec : Word) (b4 : Bool) : (s.service vec b4).mem.wf := by
  simpa [service_eq, read16_eq] using push_mem_wf (push_mem_wf (push_mem_wf h _) _) _

theorem resolve_mem_wf {s : State} (h : s.mem.wf) (m : AddrMode) : (resolve m s).2.mem.wf := by rwa [resolve_mem]

theorem modifyMem_mem_wf {s : State} (h : s.mem.wf) (f : Byte → Flags → Byte × Flags) (m : AddrMode) :
    (Next.modifyMem f m s).mem.wf := by
  have hr : ((resolve m s).2.memRead (resolve m s).1).2.mem.wf := resolve_mem_wf h m
  simp only [Next.modifyMem]
  exact State.memWrite_mem_wf _ hr _ _

/-- Every instruction keeps the canonical form of memory: one that writes does so with `memWrite`. -/
theorem Runs.mem_wf {opc : Byte} {mn : Mnemonic} {o : Operand} {f : State → State} (h : Runs opc mn o f)
    {s : State} (hm : s.mem.wf) : (f s).mem.wf := by
  obtain ⟨-, -, -, hkeep, -⟩ := h.frame s
  cases h with
  | sta m | stx m | sty m => exact State.memWrite_mem_wf _ (resolve_mem_wf hm m) _ _
  | aslAcc | lsrAcc | rolAcc | rorAcc => exact hm
  | asl m | lsr m | rol m | ror m | inc m | dec m => exact modifyMem_mem_wf hm _ m
  | jsr addr => simpa [State.call_eq] using State.push_mem_wf (State.push_mem_wf hm _) _
  | brk => exact State.service_mem_wf (s := s.setPc (s.pc + 1)) hm _ _
  | pha | php => exact State.push_mem_wf hm _
  | _ => rwa [hkeep (by decide)]

end Sys2Proof.Machine
end

section
/-! SUPPORT. What a fetch and the instruction after it can be. -/

namespace Sys2Proof.Machine

theorem OnlyRead.fetch8 {s t : State} {q : Word} (h : OnlyRead (s.setPc q) t) :
    OnlyRead (s.setPc (q + 1)) t.fetch8.2 := by
  obtain ⟨d, l, rfl⟩ := h
  exact ⟨_, l ++ [_], by rw [← List.append_assoc]; rfl⟩

/-- What a fetch at PC can be (30_encoding.md R51, R55): an instruction, after reads that moved PC, or an opcode byte
with no descriptor, after one read. -/
theorem State.fetch_cases (s : State) :
    (∃ i q t, s.fetch = .instr i t ∧ OnlyRead (s.setPc q) t) ∨
    (descriptor (s.answer s.pc) = none ∧ s.fetch = .illegal (s.answer s.pc) s.fetch8.2) := by
  have h0 : OnlyRead (s.setPc s.pc) s := OnlyRead.refl s
  have hb : s.fetch8.1 = s.answer s.pc := rfl
  unfold fetch
  simp only [hb]
  split
  · exact .inr ⟨‹_›, rfl⟩
  · exact .inl ⟨_, _, _, rfl, h0.fetch8⟩
  · exact .inl ⟨_, _, _, rfl, h0.fetch8.fetch8⟩
  · exact .inl ⟨_, _, _, rfl, h0.fetch8.fetch8.fetch8⟩

/-- What running an instruction can be (60_exceptions.md R161, R165). -/
theorem executeInstruction_cases (s : State) :
    (∃ i q t, OnlyRead (s.setPc q) t ∧ executeInstruction s = exec i t) ∨
    (descriptor (s.answer s.pc) = none ∧
      executeInstruction s = .next (s.fetch8.2.raise .unimplementedOpcode (s.answer s.pc) s.pc)) := by
  rcases s.fetch_cases with ⟨i, q, t, e, h⟩ | ⟨hd, e⟩
  · exact .inl ⟨i, q, t, h, by rw [executeInstruction, e]⟩
  · exact .inr ⟨hd, by rw [executeInstruction, e]⟩

end Sys2Proof.Machine
end

section
/-! SUPPORT. The invariant of Safety.lean: what establishes it, and that every part of a step keeps it. -/

namespace Sys2Proof.Machine

theorem plausible_decimalModeUnsupported {i : Instr} (h : i.mnemonic = .adc ∨ i.mnemonic = .sbc) (a : Word) :
    FaultRecord.plausible ⟨.decimalModeUnsupported, opcodeOf i, a⟩ := by
  have hm := opcodeOf_mem i
  rcases h with h | h <;> rw [h] at hm
  · exact List.mem_append_left ((opcodesOf .sbc).map Prod.snd) hm
  · exact List.mem_append_right ((opcodesOf .adc).map Prod.snd) hm

theorem State.Inv.of_same_record {s t : State} (h : s.Inv) (hm : t.mem.wf) (hr : t.run = s.run)
    (hf : t.fault = s.fault) : t.Inv :=
  ⟨hm, by rw [hr, hf]; exact h.haltedIffFault, by rw [hf]; exact h.record⟩

theorem State.Inv.of_raised {t : State} {r : FaultRecord} (hm : t.mem.wf) (hr : t.run = .halted)
    (hf : t.fault = some r) (hp : r.plausible) : t.Inv :=
  ⟨hm, by simp [hr, hf], by rw [hf]; rintro _ ⟨⟩; exact hp⟩

theorem State.Inv.of_no_record {t : State} (hm : t.mem.wf) (hr : t.run = .fetching) (hf : t.fault = none) : t.Inv :=
  ⟨hm, by simp [hr, hf], by simp [hf]⟩

theorem State.Inv.onlyRead {s t : State} {q : Word} (h : s.Inv) (ht : OnlyRead (s.setPc q) t) : t.Inv := by
  obtain ⟨d, l, rfl⟩ := ht
  exact h.of_same_record h.memory rfl rfl

theorem State.Inv.resetSequence {s : State} (h : s.Inv) : s.resetSequence.Inv := .of_no_record h.memory rfl rfl

theorem State.Inv.service {s : State} (h : s.Inv) (vec : Word) (b4 : Bool) : (s.service vec b4).Inv :=
  h.of_same_record (service_mem_wf h.memory vec b4) (by simp [service_eq, read16_eq]) (by simp [service_eq, read16_eq])

theorem State.Inv.exec {s t : State} (h : s.Inv) {i : Instr} (ht : exec i s = .next t) : t.Inv := by
  have hm : t.mem.wf := by
    obtain ⟨f, hf, rfl⟩ := runs_of_exec ht
    exact hf.mem_wf h.memory
  obtain ⟨hraise, hkeep⟩ := exec_raisesOnlyDecimal ht
  by_cases hd : (i.mnemonic = .adc ∨ i.mnemonic = .sbc) ∧ s.p.d = true
  · obtain ⟨hr, a, hf⟩ := hraise hd
    exact .of_raised hm hr hf (plausible_decimalModeUnsupported hd.1 a)
  · obtain ⟨hr, hf⟩ := hkeep hd
    exact h.of_same_record hm hr hf

theorem State.Inv.executeInstruction {s t : State} (h : s.Inv) (ht : executeInstruction s = .next t) : t.Inv := by
  rcases executeInstruction_cases s with ⟨i, q, u, hu, e⟩ | ⟨hd, e⟩ <;> rw [e] at ht
  · exact (h.onlyRead hu).exec ht
  · cases ht
    exact .of_raised h.memory rfl rfl hd

end Sys2Proof.Machine
end

section
/-! SUPPORT. The reset sequence reads no register. -/

namespace Sys2Proof.Machine

theorem State.resetSequence_congr {s u : State} (hm : s.mem = u.mem) (hr : s.regions = u.regions)
    (hd : s.devices = u.devices) (ht : s.trace = u.trace) (hk : s.resetDraws = u.resetDraws) :
    s.resetSequence = u.resetSequence := by
  rw [resetSequence_eq, resetSequence_eq, hm, hr, hd, ht, hk]
  rfl

theorem step_of_pendReset {s : State} (h : s.pendReset = true) : step s = .next (s.setTrace []).resetSequence := by
  simp [step, State.boundary, h]

end Sys2Proof.Machine
end

section
/-! SUPPORT. Two states that differ in the live B flag alone. -/
namespace Sys2Proof.Machine

/-- The state with another live B flag (10_state.md R14). -/
def State.withB (s : State) (b : Bool) : State := { s with p := { s.p with b := b } }

theorem sameButB_iff {s u : State} : Claims.SameButB s u ↔ ∃ b, u = s.withB b := by
  constructor
  · exact fun h => ⟨u.p.b, h⟩
  · rintro ⟨b, rfl⟩
    rfl

namespace Flags

/-- A pushed status byte has its own bit 4 (10_state.md R15). -/
theorem pushedBySoftware_withB (p : Flags) (b : Bool) : { p with b := b }.pushedBySoftware = p.pushedBySoftware := by
  obtain ⟨n, v, b', d, i, z, c⟩ := p
  revert n v b' d i z c b
  decide

theorem pushedByInterrupt_withB (p : Flags) (b : Bool) : { p with b := b }.pushedByInterrupt = p.pushedByInterrupt := by
  obtain ⟨n, v, b', d, i, z, c⟩ := p
  revert n v b' d i z c b
  decide

end Flags

namespace State

variable (s : State) (b : Bool)

@[simp] theorem memRead_withB (a : Word) : (s.withB b).memRead a = ((s.memRead a).1, (s.memRead a).2.withB b) := rfl
@[simp] theorem memWrite_withB (a : Word) (v : Byte) : (s.withB b).memWrite a v = (s.memWrite a v).withB b := rfl
@[simp] theorem push_withB (v : Byte) : (s.withB b).push v = (s.push v).withB b := rfl
@[simp] theorem pull_withB : (s.withB b).pull = (s.pull.1, s.pull.2.withB b) := rfl
@[simp] theorem fetch8_withB : (s.withB b).fetch8 = (s.fetch8.1, s.fetch8.2.withB b) := rfl
@[simp] theorem read16_withB (a : Word) : (s.withB b).read16 a = ((s.read16 a).1, (s.read16 a).2.withB b) := rfl

/-- The status byte a trap entry pushes. -/
theorem pushedStatus_withB (b4 : Bool) :
    (if b4 then (s.withB b).p.pushedBySoftware else (s.withB b).p.pushedByInterrupt) =
      if b4 then s.p.pushedBySoftware else s.p.pushedByInterrupt := by
  cases b4
  · exact s.p.pushedByInterrupt_withB b
  · exact s.p.pushedBySoftware_withB b

theorem service_withB (vec : Word) (b4 : Bool) : (s.withB b).service vec b4 = (s.service vec b4).withB b := by
  rw [service_eq, service_eq, pushedStatus_withB]
  rfl

end State

@[simp] theorem resolve_withB (m : AddrMode) (s : State) (b : Bool) :
    resolve m (s.withB b) = ((resolve m s).1, (resolve m s).2.withB b) := by
  cases m <;> rfl

@[simp] theorem readSrc_withB (o : Src) (s : State) (b : Bool) :
    readSrc o (s.withB b) = ((readSrc o s).1, (readSrc o s).2.withB b) := by
  cases o with
  | imm d8 => rfl
  | mem m => simp [readSrc]

namespace Next

variable (s : State) (b : Bool)

theorem load_withB {set : State → Byte → State} (h : ∀ s v, set (s.withB b) v = (set s v).withB b) (o : Src) :
    load set o (s.withB b) = (load set o s).withB b := by
  simp only [load, readSrc_withB, h]
  rfl

theorem store_withB (v : Byte) (m : AddrMode) : store v m (s.withB b) = (store v m s).withB b := by
  simp only [store, resolve_withB, State.memWrite_withB]

theorem add_withB (adjust : Byte → Byte) (opc : Byte) (o : Src) :
    add adjust opc o (s.withB b) = (add adjust opc o s).withB b := by
  simp only [add, readSrc_withB, apply_ite (State.withB · b)]
  rfl

theorem logic_withB (op : Byte → Byte → Byte) (o : Src) : logic op o (s.withB b) = (logic op o s).withB b := by
  simp only [logic, readSrc_withB]
  rfl

theorem bitTest_withB (o : Src) : bitTest o (s.withB b) = (bitTest o s).withB b := by
  simp only [bitTest, readSrc_withB]
  rfl

theorem compare_withB (r : Byte) (o : Src) : compare r o (s.withB b) = (compare r o s).withB b := by
  simp only [compare, readSrc_withB]
  rfl

theorem branch_withB (cond : Bool) (d8 : Byte) : branch cond d8 (s.withB b) = (branch cond d8 s).withB b := by
  cases cond <;> rfl

theorem jump_withB (m : AddrMode) : jump m (s.withB b) = (jump m s).withB b := by
  simp only [jump, resolve_withB]
  rfl

/-- The live B passes through a change of a byte unread. -/
def Blind (f : Byte → Flags → Byte × Flags) : Prop :=
  ∀ v (p : Flags) b, f v { p with b := b } = ((f v p).1, { (f v p).2 with b := b })

theorem modifyMem_withB {f : Byte → Flags → Byte × Flags} (h : Blind f) (m : AddrMode) :
    modifyMem f m (s.withB b) = (modifyMem f m s).withB b := by
  have hf (v : Byte) (t : State) : f v (t.withB b).p = ((f v t.p).1, { (f v t.p).2 with b := b }) := h v t.p b
  simp only [modifyMem, resolve_withB, State.memRead_withB, hf]
  rfl

end Next

/-- What an instruction answers from a state with another live B flag: the same but for B. -/
theorem Runs.withB {opc : Byte} {mn : Mnemonic} {o : Operand} {f : State → State} (h : Runs opc mn o f)
    (s : State) (b : Bool) : ∃ b', f (s.withB b) = (f s).withB b' := by
  cases h with
  | rti => exact ⟨s.returnFromTrap.p.b, rfl⟩
  | plp => exact ⟨s.pullP.p.b, rfl⟩
  | lda o | ldx o | ldy o => exact ⟨b, Next.load_withB s b (fun _ _ => rfl) o⟩
  | sta m | stx m | sty m => exact ⟨b, Next.store_withB s b _ m⟩
  | adc o | sbc o => exact ⟨b, Next.add_withB s b _ _ o⟩
  | and o | ora o | eor o => exact ⟨b, Next.logic_withB s b _ o⟩
  | bit o => exact ⟨b, Next.bitTest_withB s b o⟩
  | asl m | lsr m | rol m | ror m | inc m | dec m => exact ⟨b, Next.modifyMem_withB s b (fun _ _ _ => rfl) m⟩
  | cmp o | cpx o | cpy o => exact ⟨b, Next.compare_withB s b _ o⟩
  | bcc d8 | bcs d8 | beq d8 | bne d8 | bmi d8 | bpl d8 | bvc d8 | bvs d8 => exact ⟨b, Next.branch_withB s b _ d8⟩
  | jmp m => exact ⟨b, Next.jump_withB s b m⟩
  | brk => exact ⟨b, (s.setPc (s.pc + 1)).service_withB b _ _⟩
  | php => exact ⟨b, congrArg (fun v => (s.push v).withB b) (s.p.pushedBySoftware_withB b)⟩
  | aslAcc | lsrAcc | rolAcc | rorAcc | inx | iny | dex | dey => exact ⟨b, rfl⟩
  | jsr addr => exact ⟨b, rfl⟩
  | rts | pha | pla => exact ⟨b, rfl⟩
  | tax | tay | txa | tya | tsx | txs => exact ⟨b, rfl⟩
  | sec | sed | sei | clc | cld | cli | clv | nop => exact ⟨b, rfl⟩

theorem exec_withB {i : Instr} {s t : State} (h : exec i s = .next t) (b : Bool) :
    ∃ b', exec i (s.withB b) = .next (t.withB b') := by
  obtain ⟨f, hf, e⟩ := exec_runs i
  obtain rfl : f s = t := by simpa [e] using h
  obtain ⟨b', hb⟩ := hf.withB s b
  exact ⟨b', by rw [e, hb]⟩

/-- The same fetch with another live B flag in the state. -/
def Fetched.withB (b : Bool) : Fetched → Fetched
  | .instr i s => .instr i (s.withB b)
  | .illegal opc s => .illegal opc (s.withB b)

theorem State.fetch_withB (s : State) (b : Bool) : (s.withB b).fetch = s.fetch.withB b := by
  simp only [fetch, fetch8_withB]
  cases descriptor s.fetch8.1 with
  | none => rfl
  | some form => cases form <;> rfl

theorem executeInstruction_withB {s t : State} (h : executeInstruction s = .next t) (b : Bool) :
    ∃ b', executeInstruction (s.withB b) = .next (t.withB b') := by
  simp only [executeInstruction, State.fetch_withB] at h ⊢
  cases hf : s.fetch with
  | instr i u =>
    rw [hf] at h
    exact exec_withB h b
  | illegal opc u =>
    rw [hf] at h
    cases h
    exact ⟨b, rfl⟩

/-- What a step answers from a state with another live B flag: the same but for B. -/
theorem step_withB {s t : State} (h : step s = .next t) (b : Bool) : ∃ b', step (s.withB b) = .next (t.withB b') := by
  have hb : (s.withB b).beginStep = s.beginStep.withB b := rfl
  have hk : (s.beginStep.withB b).boundary = s.beginStep.boundary := rfl
  simp only [step, hb, hk] at h ⊢
  cases hB : s.beginStep.boundary <;> simp only [hB] at h ⊢
  case reset =>
    cases h
    exact ⟨s.beginStep.resetSequence.p.b, congrArg _ (State.resetSequence_congr rfl rfl rfl rfl rfl)⟩
  case idle =>
    cases h
    exact ⟨b, rfl⟩
  case nmi =>
    cases h
    exact ⟨b, congrArg _ (State.service_withB (s.beginStep.setPendNmi false) b _ _)⟩
  case irq =>
    cases h
    exact ⟨b, congrArg _ (State.service_withB (s.beginStep.setPendIrq false) b _ _)⟩
  case instruction => exact executeInstruction_withB h b

end Sys2Proof.Machine
end

section
/-! SUPPORT. The status byte: its value, its reload, and where a trap entry writes it. -/

namespace Sys2Proof.Claims
open Sys2Proof.Machine

theorem stackLoc_eq (sp : Byte) : stackLoc sp = stackAddr sp := by
  apply BitVec.eq_of_toNat_eq
  have h := sp.isLt
  rw [stackAddr_toNat, stackLoc, BitVec.toNat_ofNat]
  omega

end Sys2Proof.Claims

namespace Sys2Proof.Machine

namespace Flags

theorem toByte_toNat (p : Flags) :
    p.toByte.toNat = p.n.toNat * 128 + p.v.toNat * 64 + 32 + p.b.toNat * 16 + p.d.toNat * 8 +
      p.i.toNat * 4 + p.z.toNat * 2 + p.c.toNat := by
  have bit (x : Bool) : x.toNat ≤ 1 := x.toNat_le
  have := bit p.n; have := bit p.v; have := bit p.b; have := bit p.d; have := bit p.i; have := bit p.z
  have := bit p.c
  rw [toByte, BitVec.toNat_ofNat]
  omega

theorem toByte_fromByte (v : Byte) : (fromByte v).toByte = v ||| 0x20 := by
  revert v
  decide

theorem fromByte_toByte (p : Flags) : fromByte p.toByte = p := by
  simp only [fromByte, toByte_bits]
  rfl

/-- Bit 7 of a byte is its being at least 128. -/
theorem bit7_eq (v : Byte) : v.getLsbD 7 = decide (v.toNat ≥ 128) := by
  rw [← BitVec.msb_eq_getLsbD_last, BitVec.msb_eq_decide]

end Flags

/-- The accesses of a trap entry begin with its three pushes (60_exceptions.md R169). -/
theorem State.service_trace (s : State) (vec : Word) (b4 : Bool) :
    ∃ l, (s.service vec b4).trace = s.trace ++
      (.write (stackAddr s.sp) (hiByte s.pc) :: .write (stackAddr (s.sp - 1)) (loByte s.pc) ::
        .write (stackAddr (s.sp - 2)) (if b4 then s.p.pushedBySoftware else s.p.pushedByInterrupt) :: l) := by
  have h2 : s.sp - 1 - 1 = s.sp - 2 := by bv_omega
  rw [← h2, service_eq]
  simp [read16_eq]

/-- The third new access of a trap entry pushes the status byte. -/
theorem State.service_third_access (s : State) (vec : Word) (b4 : Bool) :
    ((s.service vec b4).trace.drop s.trace.length)[2]? =
      some (.write (stackAddr (s.sp - 2)) (if b4 then s.p.pushedBySoftware else s.p.pushedByInterrupt)) := by
  obtain ⟨l, h⟩ := s.service_trace vec b4
  rw [h, List.drop_left]
  rfl

/-! The two instructions that reload the flags have one form each. -/

theorem eq_plp_of_mnemonic {i : Instr} (h : i.mnemonic = .plp) : i = .plp := by
  cases i with
  | plp => rfl
  | _ => cases h

theorem eq_rti_of_mnemonic {i : Instr} (h : i.mnemonic = .rti) : i = .rti := by
  cases i with
  | rti => rfl
  | _ => cases h

end Sys2Proof.Machine
end

section
/-! PROOFS. The obligations of 10_state.md. -/

namespace Sys2Proof.Proofs

open Sys2Proof.Machine Sys2Proof.Claims

/-- Settles O58: only a reset, an illegal opcode, and ADC or SBC with D = 1 write the run state or the fault record,
and each writes both. -/
theorem everyStepKeepsTheInvariant : Obligations.EveryStepKeepsTheInvariant := by
  intro s t h ht
  have h0 : (s.setTrace []).Inv := h.of_same_record h.memory rfl rfl
  rcases step_cases s with ⟨-, e⟩ | ⟨-, -, e⟩ | ⟨-, -, -, e⟩ | ⟨-, -, -, -, -, e⟩ | ⟨-, -, -, -, e⟩ <;> rw [e] at ht
  · cases ht
    exact h0.resetSequence
  · cases ht
    exact h0
  · cases ht
    exact (h0.of_same_record h0.memory rfl rfl : ((s.setTrace []).setPendNmi false).Inv).service _ _
  · cases ht
    exact (h0.of_same_record h0.memory rfl rfl : ((s.setTrace []).setPendIrq false).Inv).service _ _
  · exact h0.executeInstruction ht

/-- Settles O60: every operation commutes with a change of the live B, because no operation reads it and a pushed status
byte has its own bit 4; a reset, PLP and RTI overwrite it. -/
theorem theLiveBFlagInfluencesNothing : Obligations.TheLiveBFlagInfluencesNothing := by
  intro s u t hu ht
  obtain ⟨b, rfl⟩ := sameButB_iff.mp hu
  obtain ⟨b', hw⟩ := step_withB ht b
  exact ⟨_, hw, sameButB_iff.mpr ⟨b', rfl⟩⟩

/-- Settles O1: the sum never exceeds 255, and the status byte is the one push of PHP and the third of a trap entry. -/
theorem statusByteLayout : Obligations.StatusByteLayout := by
  intro s
  refine ⟨s.p.toByte_toNat, s.p.toByte_bits 5, rfl, ⟨_, rfl, ?_⟩, ⟨_, rfl, ?_⟩, ?_, ?_⟩
  · simp [stackLoc_eq, Flags.pushedBySoftware]
  · rw [stackLoc_eq]
    exact (s.setPc (s.pc + 1)).service_third_access _ true
  · rw [stackLoc_eq]
    exact (s.setPendNmi false).service_third_access _ false
  · rw [stackLoc_eq]
    exact (s.setPendIrq false).service_third_access _ false

/-- Settles O2: both round trips bit by bit; the last clause is the frame of the flags. -/
theorem statusByteReload : Obligations.StatusByteReload := by
  refine ⟨fun b => ⟨rfl, Flags.toByte_fromByte b⟩, Flags.fromByte_toByte, ?_, ?_⟩
  · rintro _ s t (rfl | rfl) h
    · cases h
      rw [stackLoc_eq]
      simp [State.pullP_eq, State.pull_eq]
    · cases h
      rw [stackLoc_eq]
      simp [State.returnFromTrap_eq, State.pull_eq]
  · intro i s t hp hr h
    have hi : i.mnemonic ∉ [.plp, .rti] := by
      simpa using ⟨mt eq_plp_of_mnemonic hp, mt eq_rti_of_mnemonic hr⟩
    obtain ⟨-, -, hb, -⟩ := exec_keepsFlags h
    exact hb hi

/-- Settles O3: bit 7 set and all bits zero exclude each other. -/
theorem genericNZ : Obligations.GenericNZ := by
  intro p v
  constructor
  · have hz : (v == 0) = decide (v.toNat = 0) := by
      rw [Bool.eq_iff_iff]
      simp [BitVec.toNat_eq]
    rw [Flags.setNZ, Flags.bit7_eq, hz]
  · rintro ⟨hn, hz⟩
    obtain rfl : v = 0 := by simpa using hz
    simp at hn

/-- Settles O17: the reset sequence reads the collaborator and the count of resets only. -/
theorem resetForgetsTheOldState : Obligations.ResetForgetsTheOldState := by
  intro s u hs hu hm hr hd hk
  rw [step_of_pendReset hs, step_of_pendReset hu]
  exact congrArg _ (State.resetSequence_congr hm hr hd rfl hk)

/-- Settles O53: the registers of the frame over the table of instructions. -/
theorem registersHaveOnlyTheirWriters : Obligations.RegistersHaveOnlyTheirWriters :=
  fun _ _ _ h => exec_keepsRegisters h

/-- Settles O54: the flags of the frame over the table of instructions. -/
theorem flagsHaveOnlyTheirWriters : Obligations.FlagsHaveOnlyTheirWriters :=
  fun _ _ _ h => exec_keepsFlags h

/-- Settles O18. -/
theorem stateAfterReset : Obligations.StateAfterReset := by
  exact ⟨rfl, rfl, rfl, rfl, rfl, rfl, Flags.toByte_bits _ 5, by decide⟩

/-- Settles O57. -/
theorem resetMeetsTheInvariant : Obligations.ResetMeetsTheInvariant :=
  .of_no_record Memory.wf_reset rfl rfl

end Sys2Proof.Proofs
end

section
/-! SUPPORT. The model's bus accesses, reads of two bytes and addresses, in the terms of Claims. -/

namespace Sys2Proof.Claims

open Sys2Proof.Machine

variable (s : State)

theorem memRead_eq_afterAccess (a : Word) : s.memRead a = (s.answer a, afterAccess s (readOf s a)) := rfl

theorem memWrite_eq_afterAccess (a : Word) (v : Byte) : s.memWrite a v = afterAccess s (.write a v) := rfl

theorem joinBytes_eq_word (hi lo : Byte) : joinBytes hi lo = word hi lo := by
  rw [word, ← joinBytes_toNat, BitVec.ofNat_toNat, BitVec.setWidth_eq]

/-- Two reads, low byte first, and the Word they give (20_memory.md R33). -/
theorem two_reads_eq (a b : Word) :
    let lo := s.memRead a
    let hi := lo.2.memRead b
    (joinBytes hi.1 lo.1, hi.2) = (wordFrom a b s, after s (readsOf [a, b] s)) := by
  simp only [joinBytes_eq_word]
  rfl

theorem add_one_eq_ofNat (a : Word) : a + 1 = BitVec.ofNat 16 ((a.toNat + 1) % 65536) := by bv_omega

theorem zext16_eq_ofNat (p : Byte) : zext16 p = BitVec.ofNat 16 p.toNat := (BitVec.ofNat_toNat 16 p).symm

/-- The next address in page zero (R33). -/
theorem zext16_add_one_eq_ofNat (p : Byte) : zext16 (p + 1) = BitVec.ofNat 16 ((p.toNat + 1) % 256) := by
  rw [zext16_eq_ofNat, BitVec.toNat_add]
  rfl

/-- The next stack location (10_state.md R11, 20_memory.md R37). -/
theorem stackAddr_add_one_eq_ofNat (sp : Byte) :
    stackAddr (sp + 1) = BitVec.ofNat 16 (0x100 + (sp.toNat + 1) % 256) := by
  rw [← stackLoc_eq, stackLoc, BitVec.toNat_add]
  rfl

theorem push_eq_after (v : Byte) :
    s.push v = { after s [.write (stackLoc s.sp) v] with sp := BitVec.ofNat 8 ((s.sp.toNat + 255) % 256) } := by
  have hsp : s.sp - 1 = BitVec.ofNat 8 ((s.sp.toNat + 255) % 256) := by bv_omega
  rw [← hsp, stackLoc_eq]
  rfl

theorem pull_eq_after :
    s.pull = (s.answer (stackAddr (s.sp + 1)),
      { after s [readOf s (stackAddr (s.sp + 1))] with sp := BitVec.ofNat 8 ((s.sp.toNat + 1) % 256) }) := by
  have hsp : s.sp + 1 = BitVec.ofNat 8 ((s.sp.toNat + 1) % 256) := by bv_omega
  rw [← hsp]
  rfl

end Sys2Proof.Claims
end

section
/-! SUPPORT. Which bytes of storage a write and an instruction can change. -/

namespace Sys2Proof.Machine

namespace State

variable {s : State} {b : Word}

/-! A write leaves a byte of storage alone that is elsewhere or not in RAM. -/

theorem peek_memWrite_frame {a : Word} (v : Byte) (h : b = a → s.backing b ≠ .ram) :
    (s.memWrite a v).peek b = s.peek b := by
  rw [peek_memWrite, if_neg]
  rintro ⟨rfl, hr⟩
  exact h rfl hr

theorem peek_push_frame (v : Byte) (h : b = stackAddr s.sp → s.backing b ≠ .ram) : (s.push v).peek b = s.peek b :=
  peek_memWrite_frame v h

theorem peek_push_push_frame (v w : Byte) (h : b ∈ [stackAddr s.sp, stackAddr (s.sp - 1)] → s.backing b ≠ .ram) :
    ((s.push v).push w).peek b = s.peek b := by
  have hw : b = stackAddr (s.push v).sp → (s.push v).backing b ≠ .ram := by
    rw [push_sp, backing_push]
    exact fun e => h (by simp [e])
  rw [peek_push_frame w hw, peek_push_frame v fun e => h (by simp [e])]

theorem peek_call_frame (addr : Word) (h : b ∈ [stackAddr s.sp, stackAddr (s.sp - 1)] → s.backing b ≠ .ram) :
    (s.call addr).peek b = s.peek b := by
  rw [call_eq, peek_setPc, peek_push_push_frame _ _ h]

/-- A trap entry writes its three pushed bytes (60_exceptions.md R169). -/
theorem peek_service_frame (vec : Word) (b4 : Bool)
    (h : b ∈ [stackAddr s.sp, stackAddr (s.sp - 1), stackAddr (s.sp - 2)] → s.backing b ≠ .ram) :
    (s.service vec b4).peek b = s.peek b := by
  have h2 : s.sp - 1 - 1 = s.sp - 2 := by bv_omega
  have hlast (v w : Byte) : b = stackAddr ((s.push v).push w).sp → ((s.push v).push w).backing b ≠ .ram := by
    rw [push_sp, push_sp, h2, backing_push, backing_push]
    exact fun e => h (by simp [e])
  simp only [service_eq, read16_eq, peek_setPc, peek_memRead, peek_setP]
  rw [peek_push_frame _ (hlast _ _),
    peek_push_push_frame _ _ fun hb => h (List.mem_append_left [stackAddr (s.sp - 2)] hb)]

/-- Storage that holds the same byte answers the same. -/
theorem answer_eq_of_peek_eq {t : State} (hr : t.regions = s.regions) (hd : s.backing b ≠ .device)
    (hp : t.peek b = s.peek b) : t.answer b = s.answer b := by
  have ht : t.backing b ≠ .device := by rwa [backing, hr]
  rw [answer_storage _ ht, answer_storage _ hd, hp]

end State

theorem Next.peek_store_frame {s : State} {m : AddrMode} {b : Word} (v : Byte)
    (h : b = (resolve m s).1 → s.backing b ≠ .ram) : (Next.store v m s).peek b = s.peek b := by
  rw [Next.store, State.peek_memWrite_frame v (by simpa using h), peek_resolve]

theorem Next.peek_modifyMem_frame {s : State} {m : AddrMode} {b : Word} (f : Byte → Flags → Byte × Flags)
    (h : b = (resolve m s).1 → s.backing b ≠ .ram) : (Next.modifyMem f m s).peek b = s.peek b := by
  simp only [Next.modifyMem]
  rw [State.peek_memWrite_frame _ (by simpa using h)]
  simp

/-- An instruction changes a byte of storage only in RAM and only at an address it stores to. -/
theorem exec_peek_frame {i : Instr} {s t : State} {b : Word} (h : exec i s = .next t)
    (hb : b ∈ Claims.storedAddresses i s → s.backing b ≠ .ram) : t.peek b = s.peek b := by
  have hkeep := exec_keepsMemory h
  obtain ⟨f, hf, rfl⟩ := runs_of_exec h
  generalize hmn : i.mnemonic = mn, ho : i.operand = o at hf
  simp only [Claims.storedAddresses, hmn, ho] at hb
  rw [hmn] at hkeep
  cases hf with
  | sta m | stx m | sty m => exact Next.peek_store_frame _ (by simpa using hb)
  | asl m | lsr m | rol m | ror m | inc m | dec m => exact Next.peek_modifyMem_frame _ (by simpa using hb)
  | pha | php => exact State.peek_push_frame _ (by simpa using hb)
  | jsr addr => exact State.peek_call_frame addr hb
  | brk => exact State.peek_service_frame (s := s.setPc (s.pc + 1)) _ _ hb
  | aslAcc | lsrAcc | rolAcc | rorAcc => rfl
  | _ => exact s.peek_congr (hkeep (by decide)) b

end Sys2Proof.Machine
end

section
/-! SUPPORT. A step is made of bus accesses and of writes to what is not the collaborator's. -/

namespace Sys2Proof.Machine

/-- The memory collaborator (20_memory.md R30, R31; log 1): storage, backings, devices. -/
def State.collaborator (s : State) : Memory × List Region × Nat := (s.mem, s.regions, s.devices)

/-- `t` follows from `s` by bus accesses, each in the trace, and by writes to registers, flags, latches and records. -/
inductive ByAccesses (s : State) : State → Prop
  | refl : ByAccesses s s
  | read {t : State} (h : ByAccesses s t) (a : Word) : ByAccesses s (t.memRead a).2
  | write {t : State} (h : ByAccesses s t) (a : Word) (v : Byte) : ByAccesses s (t.memWrite a v)
  | registers {t u : State} (h : ByAccesses s t) (hc : u.collaborator = t.collaborator) (ht : u.trace = t.trace) :
    ByAccesses s u

namespace ByAccesses

variable {s t u : State}

theorem setSp (h : ByAccesses s t) (v : Byte) : ByAccesses s (t.setSp v) := h.registers rfl rfl

theorem setPc (h : ByAccesses s t) (v : Word) : ByAccesses s (t.setPc v) := h.registers rfl rfl

theorem setP (h : ByAccesses s t) (v : Flags) : ByAccesses s (t.setP v) := h.registers rfl rfl

theorem read16 (h : ByAccesses s t) (a : Word) : ByAccesses s (t.read16 a).2 := (h.read a).read (a + 1)

theorem read16zp (h : ByAccesses s t) (p : Byte) : ByAccesses s (t.read16zp p).2 :=
  (h.read (zext16 p)).read (zext16 (p + 1))

theorem fetch8 (h : ByAccesses s t) : ByAccesses s t.fetch8.2 := (h.read t.pc).setPc _

theorem push (h : ByAccesses s t) (v : Byte) : ByAccesses s (t.push v) :=
  (h.write (stackAddr t.sp) v).setSp _

theorem pull (h : ByAccesses s t) : ByAccesses s t.pull.2 := (h.setSp (t.sp + 1)).read _

theorem service (h : ByAccesses s t) (vec : Word) (b4 : Bool) : ByAccesses s (t.service vec b4) := by
  rw [State.service_eq]
  exact (((((h.push _).push _).push _).setP _).read16 vec).setPc _

theorem returnFromTrap (h : ByAccesses s t) : ByAccesses s t.returnFromTrap := by
  rw [State.returnFromTrap_eq]
  exact (h.pull.setP _).pull.pull.setPc _

theorem resetSequence (h : ByAccesses s t) : ByAccesses s t.resetSequence := by
  simp only [State.resetSequence_eq]
  refine setPc (read16 ?_ _) _
  exact h.registers rfl rfl

theorem resolve (h : ByAccesses s t) (m : AddrMode) : ByAccesses s (resolve m t).2 := by
  cases m with
  | ind ptr => exact (h.read _).read _
  | izx d8 | izy d8 => exact h.read16zp _
  | zp _ | zpx _ | zpy _ | abs _ | abx _ | aby _ => exact h

theorem readSrc (h : ByAccesses s t) (o : Src) : ByAccesses s (readSrc o t).2 := by
  cases o with
  | imm d8 => exact h
  | mem m => exact (h.resolve m).read _

theorem add (h : ByAccesses s t) (adjust : Byte → Byte) (opc : Byte) (o : Src) :
    ByAccesses s (Next.add adjust opc o t) := by
  unfold Next.add
  split <;> exact (h.readSrc o).registers rfl rfl

theorem modifyMem (h : ByAccesses s t) (f : Byte → Flags → Byte × Flags) (m : AddrMode) :
    ByAccesses s (Next.modifyMem f m t) :=
  (((h.resolve m).read _).setP _).write _ _

theorem branch (h : ByAccesses s t) (cond : Bool) (d8 : Byte) : ByAccesses s (Next.branch cond d8 t) := by
  unfold Next.branch
  split
  · exact h.registers rfl rfl
  · exact h

theorem runs (h : ByAccesses s t) {opc : Byte} {mn : Mnemonic} {o : Operand} {f : State → State}
    (hf : Runs opc mn o f) : ByAccesses s (f t) := by
  cases hf with
  | lda o | ldx o | ldy o | and o | ora o | eor o | bit o | cmp o | cpx o | cpy o =>
    exact (h.readSrc o).registers rfl rfl
  | adc o | sbc o => exact h.add _ _ o
  | sta m | stx m | sty m => exact (h.resolve m).write _ _
  | asl m | lsr m | rol m | ror m | inc m | dec m => exact h.modifyMem _ m
  | bcc d8 | bcs d8 | beq d8 | bne d8 | bmi d8 | bpl d8 | bvc d8 | bvs d8 => exact h.branch _ d8
  | jmp m => exact (h.resolve m).setPc _
  | jsr addr => exact ((h.push _).push _).setPc _
  | rts => exact h.pull.pull.setPc _
  | brk => exact (h.setPc (t.pc + 1)).service _ _
  | rti => exact h.returnFromTrap
  | pha | php => exact h.push _
  | pla | plp => exact h.pull.registers rfl rfl
  | aslAcc | lsrAcc | rolAcc | rorAcc | inx | iny | dex | dey => exact h.registers rfl rfl
  | tax | tay | txa | tya | tsx | txs => exact h.registers rfl rfl
  | sec | sed | sei | clc | cld | cli | clv => exact h.registers rfl rfl
  | nop => exact h

theorem exec (h : ByAccesses s t) {i : Instr} (hu : exec i t = .next u) : ByAccesses s u := by
  obtain ⟨f, hf, rfl⟩ := runs_of_exec hu
  exact h.runs hf

end ByAccesses

/-- The state a fetch leaves. -/
def Fetched.state : Fetched → State
  | .instr _ t | .illegal _ t => t

namespace ByAccesses

variable {s t u : State}

theorem fetch (h : ByAccesses s t) : ByAccesses s t.fetch.state := by
  simp only [State.fetch]
  cases descriptor t.fetch8.1 with
  | none => exact h.fetch8
  | some form =>
    cases form with
    | f1 i => exact h.fetch8
    | f2 build => exact h.fetch8.fetch8
    | f3 build => exact h.fetch8.fetch8.fetch8

theorem executeInstruction (h : ByAccesses s t) (hu : executeInstruction t = .next u) : ByAccesses s u := by
  have hf := h.fetch
  simp only [Machine.executeInstruction] at hu
  cases e : t.fetch <;> rw [e] at hf hu
  case instr i v => exact hf.exec hu
  case illegal opc v =>
    cases hu
    exact hf.registers rfl rfl

end ByAccesses

/-- A step makes bus accesses, from an empty trace, and writes registers. -/
theorem step_byAccesses {s t : State} (h : step s = .next t) : ByAccesses (s.setTrace []) t := by
  have h0 : ByAccesses (s.setTrace []) (s.setTrace []) := .refl
  rcases step_cases s with ⟨-, e⟩ | ⟨-, -, e⟩ | ⟨-, -, -, e⟩ | ⟨-, -, -, -, -, e⟩ | ⟨-, -, -, -, e⟩ <;> rw [e] at h
  · cases h
    exact h0.resetSequence
  · cases h
    exact h0
  · cases h
    exact (h0.registers rfl rfl : ByAccesses _ ((s.setTrace []).setPendNmi false)).service _ _
  · cases h
    exact (h0.registers rfl rfl : ByAccesses _ ((s.setTrace []).setPendIrq false)).service _ _
  · exact h0.executeInstruction h

end Sys2Proof.Machine
end

section
/-! SUPPORT. A trace replayed on the collaborator. -/

namespace Sys2Proof.Claims

open Sys2Proof.Machine

/-- What an access does to the collaborator depends on the collaborator alone. -/
theorem afterAccess_collaborator_congr {s t : State} (h : t.collaborator = s.collaborator) (e : Access) :
    (afterAccess t e).collaborator = (afterAccess s e).collaborator := by
  simp only [State.collaborator, Prod.mk.injEq] at h ⊢
  obtain ⟨hm, hr, hd⟩ := h
  cases e <;> simp [afterAccess, State.backing, hm, hr, hd]

theorem replay_append (l k : List Access) (s : State) : replay (l ++ k) s = (replay l s).bind (replay k) := by
  induction l generalizing s with
  | nil => rfl
  | cons e l ih =>
    cases e with
    | read a v =>
      simp only [List.cons_append, replay]
      split
      · exact ih _
      · rfl
    | write a v => exact ih _

/-- A replay of the trace arrives at the collaborator of the state that has the trace. -/
def Accounts (s t : State) : Prop := ∃ u, replay t.trace s = some u ∧ t.collaborator = u.collaborator

/-- One more access: `hv` says that the replayed collaborator agrees to it. -/
theorem Accounts.access {s t : State} (h : Accounts s t) {e : Access}
    (hv : ∀ u : State, u.collaborator = t.collaborator → replay [e] u = some (afterAccess u e)) :
    Accounts s (afterAccess t e) := by
  obtain ⟨u, hu, hc⟩ := h
  have htr : (afterAccess t e).trace = t.trace ++ [e] := by cases e <;> rfl
  exact ⟨afterAccess u e, by rw [htr, replay_append, hu]; exact hv u hc.symm, afterAccess_collaborator_congr hc e⟩

theorem answer_collaborator_congr {t u : State} (h : u.collaborator = t.collaborator) (a : Word) :
    u.answer a = t.answer a := by
  simp only [State.collaborator, Prod.mk.injEq] at h
  obtain ⟨hm, hr, hd⟩ := h
  exact t.answer_congr hm hr hd a

/-- A trace accounts for the accesses that it logs, because each is made on the collaborator that the replay of the
ones before it arrives at. -/
theorem accounts_of_byAccesses {s t : State} (h : ByAccesses (s.setTrace []) t) : Accounts s t := by
  induction h with
  | refl => exact ⟨s, rfl, rfl⟩
  | @read t _ a ih =>
    rw [memRead_eq_afterAccess]
    refine ih.access fun u hu => ?_
    simp [readOf, replay, answer_collaborator_congr hu]
  | write _ a v ih =>
    rw [memWrite_eq_afterAccess]
    exact ih.access fun u _ => rfl
  | registers _ hc ht ih =>
    obtain ⟨u, hu, he⟩ := ih
    exact ⟨u, by rw [ht, hu], hc.trans he⟩

end Sys2Proof.Claims

namespace Sys2Proof.Machine

/-- No access and no register write changes a backing (20_memory.md R31; log 1). -/
theorem ByAccesses.regions {s t : State} (h : ByAccesses s t) : t.regions = s.regions := by
  induction h with
  | refl => rfl
  | read _ a ih => exact ih
  | write _ a v ih => exact ih
  | registers _ hc _ ih => exact (congrArg (fun c => c.2.1) hc).trans ih

end Sys2Proof.Machine
end

section
/-! PROOFS. The obligations of 20_memory.md. -/

namespace Sys2Proof.Proofs

open Sys2Proof.Machine Sys2Proof.Claims

/-- Settles O56: a step is made of accesses, each in the trace, and of writes to what is not the collaborator's; by
induction on them the replayed collaborator is the machine's own at each access. -/
theorem theTraceAccountsForMemory : Obligations.TheTraceAccountsForMemory := by
  intro s t h
  have hb := step_byAccesses h
  obtain ⟨u, hu, hc⟩ := accounts_of_byAccesses hb
  simp only [State.collaborator, Prod.mk.injEq] at hc
  obtain ⟨hm, -, hd⟩ := hc
  exact ⟨u, hu, hm, hd, hb.regions⟩

/-- Settles O5: SP + 1 after a push is the SP before it, in the wrap too. -/
theorem stackPushAndPull : Obligations.StackPushAndPull := by
  intro s v
  have hsp : s.sp - 1 + 1 = s.sp := by simp
  have hlt := s.sp.isLt
  simp only [← stackAddr_add_one_eq_ofNat, stackLoc_eq, State.push_sp, hsp]
  refine ⟨by rw [stackAddr_toNat]; omega, by rw [stackAddr_toNat]; omega, ?_, ?_, ?_, ?_⟩
  · rw [push_eq_after, stackLoc_eq]
  · exact fun h => ⟨s.peek_push_same v h, (s.pull_push v h).1⟩
  · exact fun b hb => s.peek_push_ne v hb
  · exact pull_eq_after s

/-- Settles O6: LDA takes what the collaborator answers after the write of STA. -/
theorem loadAfterStoreSeesTheStore : Obligations.LoadAfterStoreSeesTheStore := by
  intro s a b
  refine ⟨s.memWrite a s.a, _, rfl, rfl, ?_⟩
  have hb : (s.memWrite a s.a).backing b = s.backing b := rfl
  change (s.memWrite a s.a).answer b = _
  cases h : s.backing b with
  | ram =>
    rw [State.answer_storage _ (by simp [hb, h]), State.peek_memWrite]
    by_cases e : b = a
    · subst e
      simp [h]
    · simp [e]
  | rom => rw [State.answer_storage _ (by simp [hb, h]), State.peek_memWrite_frame _ (by simp [h])]
  | device =>
    rw [State.answer_device _ (hb.trans h)]
    rfl

/-- Settles O55: only `memWrite` changes storage, and only in RAM; a byte that is unchanged in storage is answered
unchanged. -/
theorem onlyTheStoredBytesChange : Obligations.OnlyTheStoredBytesChange := by
  intro i s t b h
  obtain ⟨-, -, -, hr, -⟩ := exec_keepsLatches h
  refine ⟨hr, fun hb => ?_, fun hrom => ?_⟩
  · have hp : t.peek b = s.peek b := exec_peek_frame h (absurd · hb)
    exact ⟨hp, fun hd => State.answer_eq_of_peek_eq hr hd hp⟩
  · exact State.answer_eq_of_peek_eq hr (by simp [hrom]) (exec_peek_frame h (by simp [hrom]))

/-- Settles O4. -/
theorem sixteenBitReadsAreLittleEndian : Obligations.SixteenBitReadsAreLittleEndian := by
  refine ⟨fun s a => ?_, fun s p => ?_⟩
  · rw [State.read16_eq, add_one_eq_ofNat]
    exact two_reads_eq s _ _
  · rw [State.read16zp_eq, zext16_add_one_eq_ofNat, zext16_eq_ofNat]
    exact two_reads_eq s _ _

end Sys2Proof.Proofs
end

section
/-! SUPPORT. The decoder and the encoder over one relation: which bytes a table entry gives an instruction. -/

namespace Sys2Proof

/-- An entry at opcode byte `opc` spells instruction `i` as the bytes `b` (30_encoding.md R50). -/
inductive Form.Spells (opc : Byte) : Form → Instr → List Byte → Prop
  | f1 (i : Instr) : Spells opc (.f1 i) i [opc]
  | f2 (mk : Byte → Instr) (d8 : Byte) : Spells opc (.f2 mk) (mk d8) (bytes2 opc d8)
  | f3 (mk : Word → Instr) (w : Word) : Spells opc (.f3 mk) (mk w) (bytes3 opc w)

/-- The instruction of an entry whose operand bytes are 0. -/
def Form.sample : Form → Instr
  | .f1 i => i
  | .f2 mk => mk 0
  | .f3 mk => mk 0

theorem Form.spells_sample (opc : Byte) (form : Form) : ∃ b, form.Spells opc form.sample b := by
  cases form with
  | f1 i => exact ⟨_, .f1 i⟩
  | f2 mk => exact ⟨_, .f2 mk 0⟩
  | f3 mk => exact ⟨_, .f3 mk 0⟩

/-- The decoder's entry at the encoder's opcode byte spells the instruction as the encoder does, and spells whatever
else it makes as the encoder does too. -/
theorem descriptor_opcodeOf (i : Instr) :
    ∃ form, descriptor (opcodeOf i) = some form ∧ form.Spells (opcodeOf i) i (encode i) ∧
      ∀ j b, form.Spells (opcodeOf i) j b → encode j = b := by
  cases i with
  | aslAcc | lsrAcc | rolAcc | rorAcc | inx | iny | dex | dey | rts | brk | rti | pha | php | pla | plp
  | tax | tay | txa | tya | tsx | txs | sec | sed | sei | clc | cld | cli | clv | nop =>
    exact ⟨_, rfl, .f1 _, by rintro _ _ ⟨⟩; rfl⟩
  | ldaAbs w | ldaAbx w | ldaAby w | ldxAbs w | ldxAby w | ldyAbs w | ldyAbx w | staAbs w | staAbx w | staAby w
  | stxAbs w | styAbs w | adcAbs w | adcAbx w | adcAby w | sbcAbs w | sbcAbx w | sbcAby w | andAbs w | andAbx w
  | andAby w | oraAbs w | oraAbx w | oraAby w | eorAbs w | eorAbx w | eorAby w | bitAbs w | aslAbs w | aslAbx w
  | lsrAbs w | lsrAbx w | rolAbs w | rolAbx w | rorAbs w | rorAbx w | incAbs w | incAbx w | decAbs w | decAbx w
  | cmpAbs w | cmpAbx w | cmpAby w | cpxAbs w | cpyAbs w | jmpAbs w | jmpInd w | jsr w =>
    exact ⟨_, rfl, .f3 _ _, by rintro _ _ ⟨⟩; rfl⟩
  | _ => exact ⟨_, rfl, .f2 _ _, by rintro _ _ ⟨⟩; rfl⟩

/-- Every entry of the decoder stands at the encoder's opcode byte of what it makes. -/
theorem opcodeOf_sample {opc : Byte} {form : Form} (h : descriptor opc = some form) : opcodeOf form.sample = opc := by
  have table : ∀ opc, (descriptor opc).all (fun form => opcodeOf form.sample = opc) = true := by decide
  simpa [h] using table opc

/-- What an entry spells, the encoder spells the same. -/
theorem encode_of_spells {opc : Byte} {form : Form} (h : descriptor opc = some form) {i : Instr} {b : List Byte}
    (hs : form.Spells opc i b) : encode i = b := by
  obtain ⟨form', h', -, he⟩ := descriptor_opcodeOf form.sample
  rw [opcodeOf_sample h] at h' he
  obtain rfl : form = form' := by simpa [h] using h'
  exact he i b hs

/-- What decodes: the bytes that an entry spells. -/
theorem decode_of_spells {opc : Byte} {form : Form} (h : descriptor opc = some form) {i : Instr} {b : List Byte}
    (hs : form.Spells opc i b) (rest : List Byte) : decode (b ++ rest) = .ok i rest := by
  cases hs with
  | f1 i => simp [decode, h]
  | f2 mk d8 => simp [decode, h, bytes2]
  | f3 mk w => simp [decode, h, bytes3]

/-- And nothing else decodes. -/
theorem spells_of_decode {bytes rest : List Byte} {i : Instr} (h : decode bytes = .ok i rest) :
    ∃ opc form b, descriptor opc = some form ∧ form.Spells opc i b ∧ bytes = b ++ rest := by
  unfold decode at h
  split at h
  · cases h
  · split at h <;> cases h
    · exact ⟨_, _, _, ‹_›, .f1 _, rfl⟩
    · exact ⟨_, _, _, ‹_›, .f2 _ _, rfl⟩
    · exact ⟨_, _, _, ‹_›, .f3 _ _, by simp [bytes3]⟩

/-- A byte with no entry is rejected, and no other is (30_encoding.md R55). -/
theorem decode_eq_unimplementedOpcode_iff (opc : Byte) (rest : List Byte) :
    decode (opc :: rest) = .unimplementedOpcode opc ↔ descriptor opc = none := by
  simp only [decode]
  split <;> simp_all

theorem encode_eq_cons (i : Instr) : ∃ l, encode i = opcodeOf i :: l := by
  obtain ⟨form, -, hs, -⟩ := descriptor_opcodeOf i
  generalize opcodeOf i = opc, encode i = b at hs
  cases hs <;> exact ⟨_, rfl⟩

theorem opcodeOf_eq_of_encode {i : Instr} {opc : Byte} {l : List Byte} (h : encode i = opc :: l) :
    opcodeOf i = opc := by
  rw [opcodeOf, h]
  rfl

/-! ### The table by mnemonic (30_encoding.md R54, R71) -/

theorem instr_shape (i : Instr) : Laws.Shape.Statement i := by
  cases i <;> exact Laws.Shape.of_table rfl rfl

/-- Every instruction has its row there. -/
theorem mode_opcodeOf_mem (i : Instr) : (i.mode, opcodeOf i) ∈ opcodesOf i.mnemonic := (instr_shape i).1

theorem encode_length (i : Instr) : (encode i).length = i.length := (instr_shape i).2

theorem mode_mem_modesOf (i : Instr) : i.mode ∈ modesOf i.mnemonic := List.mem_map_of_mem (mode_opcodeOf_mem i)

/-- Every listed pair passes the checks of R71. -/
theorem wf_of_mem_modesOf : ∀ mn, ∀ md ∈ modesOf mn, Desc.wf ⟨mn, md⟩ = true := by
  intro mn
  cases mn <;> decide

theorem Instr.wf_eq_true (i : Instr) : i.wf = true := wf_of_mem_modesOf _ _ (mode_mem_modesOf i)

/-- Who uses zpy (30_encoding.md R61). -/
theorem mem_ldx_stx_of_zpy {i : Instr} (h : i.mode = .zpy) : i.mnemonic ∈ [.ldx, .stx] := by
  have table : ∀ mn, .zpy ∈ modesOf mn → mn ∈ [.ldx, .stx] := by
    intro mn
    cases mn <;> decide
  exact table _ (h ▸ mode_mem_modesOf i)

/-! The lists and the checks of R71 as propositions. -/

theorem Mnemonic.isBranch_iff (mn : Mnemonic) :
    mn.isBranch = true ↔ mn ∈ [.bcc, .bcs, .beq, .bne, .bmi, .bpl, .bvc, .bvs] := by
  cases mn <;> decide

theorem Mnemonic.isShift_iff (mn : Mnemonic) : mn.isShift = true ↔ mn ∈ [.asl, .lsr, .rol, .ror] := by
  cases mn <;> decide

theorem Mnemonic.neverImmediate_iff (mn : Mnemonic) :
    mn.neverImmediate = true ↔ mn ∈ [.sta, .stx, .sty, .asl, .lsr, .rol, .ror, .inc, .dec, .bcc, .bcs, .beq, .bne,
      .bmi, .bpl, .bvc, .bvs, .jmp, .jsr, .rts, .brk, .rti] := by
  cases mn <;> decide

theorem Desc.indOnlyJmp_iff (d : Desc) : d.indOnlyJmp = true ↔ (d.mode = .ind → d.mnemonic = .jmp) := by
  simp [indOnlyJmp, imp_iff_not_or]

theorem Desc.relIffBranch_iff (d : Desc) :
    d.relIffBranch = true ↔ (d.mode = .rel ↔ d.mnemonic.isBranch = true) := by
  rw [relIffBranch, beq_iff_eq, Bool.eq_iff_iff, beq_iff_eq]

theorem Desc.accOnlyShift_iff (d : Desc) :
    d.accOnlyShift = true ↔ (d.mode = .acc → d.mnemonic.isShift = true) := by
  simp [accOnlyShift, imp_iff_not_or]

theorem Desc.immReadsOnly_iff (d : Desc) :
    d.immReadsOnly = true ↔ (d.mode = .imm → ¬d.mnemonic.neverImmediate = true) := by
  simp [immReadsOnly, imp_iff_not_or]

theorem Desc.wf_iff (d : Desc) :
    d.wf = true ↔ d.listed = true ∧ d.indOnlyJmp = true ∧ d.relIffBranch = true ∧ d.accOnlyShift = true ∧
      d.immReadsOnly = true := by
  simp [wf, and_assoc]

/-- Every listed opcode byte has an entry of that mnemonic and mode. -/
theorem exists_descriptor_of_mem_opcodesOf {mn : Mnemonic} {md : Mode} {opc : Byte} (h : (md, opc) ∈ opcodesOf mn) :
    ∃ form, descriptor opc = some form ∧ form.sample.desc = ⟨mn, md⟩ := by
  have table : ∀ e ∈ opcodesOf mn, (descriptor e.2).any (fun form => form.sample.desc = ⟨mn, e.1⟩) = true := by
    cases mn <;> decide
  simpa [Option.any_eq_true] using table _ h

/-- The bytes with no entry are the listed ones (30_encoding.md R55). -/
theorem descriptor_eq_none_iff (opc : Byte) : descriptor opc = none ↔ opc ∈ Claims.illegalBytes := by
  have table : ∀ opc, (descriptor opc).isNone = true ↔ opc ∈ Claims.illegalBytes := by decide
  rw [← table, Option.isNone_iff_eq_none]

end Sys2Proof
end

section
/-! SUPPORT. Pages, page-zero sums and branch targets as numbers; the resolver in the terms of Claims. -/

namespace Sys2Proof

theorem loByte_toNat (w : Word) : (loByte w).toNat = w.toNat % 256 := by simp [loByte]

theorem hiByte_toNat (w : Word) : (hiByte w).toNat = w.toNat / 256 := by
  have h := w.isLt
  rw [hiByte, BitVec.extractLsb'_toNat, Nat.shiftRight_eq_div_pow]
  omega

/-- The page of one address and the place in its page of another. -/
theorem page_or_offset (u v : Word) : (u &&& 0xFF00) ||| (v &&& 0x00FF) = joinBytes (hiByte u) (loByte v) := by
  have masks : ∀ k < 16, (0xFF00 : Word).getLsbD k = decide (8 ≤ k) ∧ (0x00FF : Word).getLsbD k = decide (k < 8) := by
    decide
  apply BitVec.eq_of_getLsbD_eq
  intro k hk
  obtain ⟨hp, ho⟩ := masks k hk
  rw [joinBytes_getLsbD, BitVec.getLsbD_or, BitVec.getLsbD_and, BitVec.getLsbD_and, hp, ho]
  by_cases h : k < 8
  · simp [loByte, h, Nat.not_le.mpr h]
  · have e : 8 + (k - 8) = k := by omega
    have h8 : k - 8 < 8 := by omega
    simp [hiByte, h, h8, e, Nat.not_lt.mp h]

/-- The page of an address. -/
theorem page_eq (u : Word) : u &&& 0xFF00 = joinBytes (hiByte u) 0 := by
  simpa [show loByte 0#16 = 0#8 from rfl] using page_or_offset u 0

namespace Machine

theorem differentPage_iff (u v : Word) : differentPage u v = true ↔ u.toNat / 256 ≠ v.toNat / 256 := by
  have hj : joinBytes (hiByte u) 0 = joinBytes (hiByte v) 0 ↔ hiByte u = hiByte v :=
    ⟨fun h => by simpa using congrArg hiByte h, fun h => by rw [h]⟩
  rw [differentPage, bne_iff_ne, page_eq, page_eq, Ne, hj, BitVec.toNat_eq, hiByte_toNat, hiByte_toNat]

/-- The branch target over the integers, modulo 65536 (30_encoding.md R68). -/
theorem branchTarget_eq_ofInt (d8 : Byte) (s : State) :
    branchTarget d8 s = BitVec.ofInt 16 (s.pc.toNat + d8.toInt) := by
  rw [branchTarget, sext16_eq_signExtend, BitVec.signExtend, BitVec.ofInt_add, BitVec.ofInt_natCast,
    BitVec.ofNat_toNat, BitVec.setWidth_eq]

end Machine

namespace Claims

open Sys2Proof.Machine

theorem zext16_add_eq_ofNat (u v : Byte) : zext16 (u + v) = BitVec.ofNat 16 ((u.toNat + v.toNat) % 256) := by
  rw [zext16_eq_ofNat, BitVec.toNat_add]

/-- Base plus index (30_encoding.md R63, R64, R67). -/
theorem add_zext16_eq_ofNat (base : Word) (i : Byte) :
    base + zext16 i = BitVec.ofNat 16 ((base.toNat + i.toNat) % 65536) := by
  apply BitVec.eq_of_toNat_eq
  simp

/-- The pointer's second byte is in the page of its first (30_encoding.md R65). -/
theorem nextInPage_eq (ptr : Word) : (ptr &&& 0xFF00) ||| ((ptr + 1) &&& 0x00FF) = nextInPage ptr := by
  have h := ptr.isLt
  apply BitVec.eq_of_toNat_eq
  rw [page_or_offset, joinBytes_toNat, hiByte_toNat, loByte_toNat, nextInPage, add_one_eq_ofNat, BitVec.toNat_ofNat,
    BitVec.toNat_ofNat]
  omega

/-- A pointer in page zero is read as two bytes there (30_encoding.md R66, R67). -/
theorem read16zp_eq_after (s : State) (p : Byte) :
    let a := BitVec.ofNat 16 p.toNat
    let b := BitVec.ofNat 16 ((p.toNat + 1) % 256)
    s.read16zp p = (wordFrom a b s, after s (readsOf [a, b] s)) :=
  Proofs.sixteenBitReadsAreLittleEndian.2 s p

/-- Each mode with an effective address (30_encoding.md R59 to R67). -/
theorem resolve_eq_after (m : AddrMode) (s : State) :
    resolve m s = (effectiveAddress m s, after s (pointerReads m s)) := by
  cases m with
  | zp d8 => exact congrArg (·, s) (zext16_eq_ofNat d8)
  | zpx d8 => exact congrArg (·, s) (zext16_add_eq_ofNat d8 s.x)
  | zpy d8 => exact congrArg (·, s) (zext16_add_eq_ofNat d8 s.y)
  | abs addr => rfl
  | abx addr => exact congrArg (·, s) (add_zext16_eq_ofNat addr s.x)
  | aby addr => exact congrArg (·, s) (add_zext16_eq_ofNat addr s.y)
  | ind ptr =>
    simp only [resolve, nextInPage_eq]
    exact two_reads_eq s _ _
  | izx d8 =>
    have h := read16zp_eq_after s (d8 + s.x)
    rw [BitVec.toNat_add] at h
    exact h
  | izy d8 =>
    simp only [resolve, read16zp_eq_after, add_zext16_eq_ofNat]
    rfl

/-- An absolute-indexed sum that leaves the page of its base (30_encoding.md R63, R64, R67). -/
theorem differentPage_add_iff (base : Word) (i : Byte) :
    differentPage base (base + zext16 i) = true ↔
      base.toNat / 256 ≠ (base.toNat + i.toNat) % 65536 / 256 := by
  rw [differentPage_iff, BitVec.toNat_add, zext16_toNat]

theorem pageCrossed_izy (d8 : Byte) (s : State) :
    pageCrossed (.izy d8) s =
      let base := wordFrom (BitVec.ofNat 16 d8.toNat) (BitVec.ofNat 16 ((d8.toNat + 1) % 256)) s
      differentPage base (base + zext16 s.y) := by
  simp only [pageCrossed, resolve, read16zp_eq_after]
  rfl

theorem after_append (s : State) (l k : List Access) : after s (l ++ k) = after (after s l) k := List.foldl_append

/-- The operand byte (30_encoding.md R58, R69). -/
theorem readSrc_eq_after (o : Src) (s : State) : readSrc o s = (operandByte o s, after s (operandReads o s)) := by
  cases o with
  | imm d8 => rfl
  | mem m =>
    simp only [readSrc, resolve_eq_after, memRead_eq_afterAccess, operandByte, operandReads, after_append]
    rfl

end Claims
end Sys2Proof
end

section
/-! SUPPORT. The fetch of an instruction whose bytes stand at PC. -/

namespace Sys2Proof.Claims

open Sys2Proof.Machine

theorem readsOf_append (l k : List Word) (s : State) :
    readsOf (l ++ k) s = readsOf l s ++ readsOf k (after s (readsOf l s)) := by
  induction l generalizing s with
  | nil => rfl
  | cons a l ih => exact congrArg (readOf s a :: ·) (ih _)

/-- What reads are answered depends on the collaborator alone. -/
theorem readsOf_congr {s t : State} (h : t.collaborator = s.collaborator) (l : List Word) :
    readsOf l t = readsOf l s := by
  induction l generalizing s t with
  | nil => rfl
  | cons a l ih =>
    have he : readOf t a = readOf s a := by rw [readOf, readOf, answer_collaborator_congr h]
    rw [readsOf, readsOf, he, ih (afterAccess_collaborator_congr h _)]

end Sys2Proof.Claims

namespace Sys2Proof.Machine

open Sys2Proof.Claims

/-- The state after `n` fetches of a byte: the reads at PC in ascending order, and PC past them. -/
def State.fetched (s : State) (n : Nat) : State :=
  { after s (readsOf ((List.range n).map fun k => s.pc + BitVec.ofNat 16 k) s) with pc := s.pc + BitVec.ofNat 16 n }

theorem State.fetched_zero (s : State) : s.fetched 0 = s := by simp [fetched, readsOf, after]

theorem State.fetched_succ (s : State) (n : Nat) : s.fetched (n + 1) = (s.fetched n).fetch8.2 := by
  have hpc : s.pc + BitVec.ofNat 16 (n + 1) = s.pc + BitVec.ofNat 16 n + 1 := by
    rw [BitVec.ofNat_add, BitVec.add_assoc]
    rfl
  simp only [fetched, List.range_succ, List.map_append, readsOf_append, after_append, hpc]
  rfl

theorem bytesAtPc_eq (s : State) :
    bytesAtPc s = [s.fetch8.1, s.fetch8.2.fetch8.1, s.fetch8.2.fetch8.2.fetch8.1] := by
  have hpc : s.pc + 2 = s.pc + 1 + 1 := by
    rw [BitVec.add_assoc]
    rfl
  rw [bytesAtPc, hpc]
  rfl

theorem length_of_spells {opc : Byte} {form : Form} (h : descriptor opc = some form) {i : Instr} {b : List Byte}
    (hs : form.Spells opc i b) : i.length = b.length := by
  rw [← encode_length, encode_of_spells h hs]

/-- A fetch reads the bytes of the instruction and no more (30_encoding.md R51, R52). -/
theorem fetch_of_decode {s : State} {i : Instr} {rest : List Byte} (h : decode (bytesAtPc s) = .ok i rest) :
    s.fetch = .instr i (s.fetched i.length) := by
  obtain ⟨opc, form, b, hd, hs, hb⟩ := spells_of_decode h
  rw [length_of_spells hd hs]
  rw [bytesAtPc_eq] at hb
  cases hs <;> simp only [bytes2, bytes3, List.cons_append, List.nil_append, List.cons.injEq] at hb
  case f1 =>
    obtain ⟨h0, -⟩ := hb
    simp [State.fetch, h0, hd, State.fetched_succ, State.fetched_zero]
  case f2 mk d8 =>
    obtain ⟨h0, h1, -⟩ := hb
    simp [State.fetch, h0, hd, h1, bytes2, State.fetched_succ, State.fetched_zero]
  case f3 mk w =>
    obtain ⟨h0, h1, h2, -⟩ := hb
    simp [State.fetch, h0, hd, h1, h2, bytes3, State.fetched_succ, State.fetched_zero]

theorem step_of_ready {s : State} (h : s.Ready) : step s = executeInstruction (s.setTrace []) := by
  obtain ⟨hr, hf, hn, hi⟩ := h
  rcases step_cases s with ⟨h, -⟩ | ⟨-, h, -⟩ | ⟨-, -, h, -⟩ | ⟨-, -, -, hq, hp, -⟩ | ⟨-, -, -, -, e⟩
  · simp [hr] at h
  · simp [hf] at h
  · simp [hn] at h
  · simp [hq, hp] at hi
  · exact e

end Sys2Proof.Machine
end

section
/-! PROOFS. The obligations of 30_encoding.md. -/

namespace Sys2Proof.Proofs

open Sys2Proof.Machine Sys2Proof.Claims

/-- Settles O7: the decoder's entry at the instruction's opcode byte spells the instruction as the encoder does. -/
theorem decodeUndoesEncode : Obligations.DecodeUndoesEncode := by
  intro i rest
  obtain ⟨form, hd, hs, -⟩ := descriptor_opcodeOf i
  exact ⟨i.wf_eq_true, encode_length i, decode_of_spells hd hs rest⟩

/-- Settles O8: what an entry spells, the encoder spells the same. -/
theorem encodeUndoesDecode : Obligations.EncodeUndoesDecode := by
  intro bytes rest i h
  obtain ⟨opc, form, b, hd, hs, rfl⟩ := spells_of_decode h
  rw [encode_of_spells hd hs]

/-- Settles O11: from the table by mnemonic to the matrix by the entry's sample, and back by the encoder. -/
theorem opcodeMatrixBothWays : Obligations.OpcodeMatrixBothWays := by
  intro mn md opc
  constructor
  · intro h
    obtain ⟨form, hd, hm⟩ := exists_descriptor_of_mem_opcodesOf h
    obtain ⟨l, hl⟩ := encode_eq_cons form.sample
    rw [opcodeOf_sample hd] at hl
    obtain ⟨-, -, hdec⟩ := decodeUndoesEncode form.sample []
    rw [List.append_nil, hl] at hdec
    exact ⟨_, l, hdec, congrArg Desc.mnemonic hm, congrArg Desc.mode hm⟩
  · rintro ⟨i, rest, h, rfl, rfl⟩
    have he := encodeUndoesDecode _ _ _ h
    rw [List.append_nil] at he
    rw [← opcodeOf_eq_of_encode he.symm]
    exact mode_opcodeOf_mem i

/-- Settles O9: the decoder rejects the bytes with no entry. -/
theorem illegalBytesAreTheListed : Obligations.IllegalBytesAreTheListed := by
  refine ⟨by decide, by decide, fun opc rest => ?_⟩
  rw [decode_eq_unimplementedOpcode_iff, descriptor_eq_none_iff]

/-- Settles O10: every instruction passes R71, whose checks these are. -/
theorem everyDescriptorPairsLegally : Obligations.EveryDescriptorPairsLegally := by
  intro bytes rest i _
  obtain ⟨-, hind, hrel, hacc, himm⟩ := (Desc.wf_iff _).mp i.wf_eq_true
  rw [Desc.indOnlyJmp_iff] at hind
  rw [Desc.relIffBranch_iff, Mnemonic.isBranch_iff] at hrel
  rw [Desc.accOnlyShift_iff, Mnemonic.isShift_iff] at hacc
  rw [Desc.immReadsOnly_iff, Mnemonic.neverImmediate_iff] at himm
  exact ⟨mode_mem_modesOf i, hind, hrel, hacc, himm⟩

/-- Settles O26: the model's page masks and wrapping sums are the rules' divisions and remainders. -/
theorem effectiveAddresses : Obligations.EffectiveAddresses := by
  refine ⟨fun i => ⟨mem_ldx_stx_of_zpy, ?_⟩, fun m s => ⟨resolve_eq_after m s, ?_⟩⟩
  · obtain ⟨-, hind, -⟩ := (Desc.wf_iff _).mp i.wf_eq_true
    exact (Desc.indOnlyJmp_iff _).mp hind
  · cases m with
    | abx base | aby base => simp [pageCrossed, differentPage_add_iff]
    | izy d8 => simp [pageCrossed_izy, differentPage_add_iff]
    | zp _ | zpx _ | zpy _ | abs _ | ind _ | izx _ => simp [pageCrossed]

/-- Settles O27: the resolver's reads, and one more at the address it gives. -/
theorem operandByteAndItsAccesses : Obligations.OperandByteAndItsAccesses := readSrc_eq_after

/-- Settles O28: the sign-extended offset is the signed number modulo 65536. -/
theorem branchTargetIsSignedAndWraps : Obligations.BranchTargetIsSignedAndWraps := by
  intro d8 s taken
  constructor
  · rw [branchTarget_eq_ofInt, BitVec.toNat_ofInt]
    omega
  · rw [branchPageCrossed, Bool.and_eq_true, differentPage_iff]

/-- Settles O13: the fetch reads the bytes that decode and no more, and emptying the trace changes no answer. -/
theorem stepRunsTheDecodedInstruction : Obligations.StepRunsTheDecodedInstruction := by
  intro s i rest hr h
  have h0 : (s.setTrace []).collaborator = s.collaborator := rfl
  have hf : (s.setTrace []).fetched i.length = afterFetch s i := by
    rw [State.fetched, readsOf_congr h0]
    rfl
  have hb : bytesAtPc (s.setTrace []) = bytesAtPc s := by
    rw [bytesAtPc, readsOf_congr h0]
    rfl
  rw [step_of_ready hr, executeInstruction, fetch_of_decode (hb ▸ h), hf]

/-- Settles O12. -/
theorem writtenOutBytesDecode : Obligations.WrittenOutBytesDecode := by
  unfold Obligations.WrittenOutBytesDecode
  decide

end Sys2Proof.Proofs
end

section
/-! SUPPORT. The operations of 40_load_store.md in the terms of Claims; and how a family of instructions that read an
operand, or that store a byte, has its statement from the table of next states. -/

namespace Sys2Proof.Claims

open Sys2Proof.Machine

theorem setNZ_eq_withNZ (p : Flags) (v : Byte) : p.setNZ v = withNZ p v := (Proofs.genericNZ p v).1

/-- A load: the operand's accesses, then the register and N and Z from the operand byte (40_load_store.md R80 to R82). -/
theorem load_eq_after (set : State → Byte → State) (o : Src) (s : State) :
    Next.load set o s =
      let v := operandByte o s
      let t := after s (operandReads o s)
      (set t v).setP (withNZ t.p v) := by
  simp only [Next.load, readSrc_eq_after, setNZ_eq_withNZ]

/-- A store: the pointer reads, then one write at the address they give (R83 to R85). -/
theorem store_eq_after (v : Byte) (m : AddrMode) (s : State) :
    Next.store v m s = after s (pointerReads m s ++ [.write (resolve m s).1 v]) := by
  have hr : (resolve m s).2 = after s (pointerReads m s) := congrArg Prod.snd (resolve_eq_after m s)
  rw [Next.store, memWrite_eq_afterAccess, hr, after_append]
  rfl

/-- Every row of a reading mnemonic takes a source operand and answers `result`. -/
theorem reads_of_runs {mn : Mnemonic} {result : Byte → State → State}
    (h : ∀ {opc o f}, Runs opc mn o f →
      ∃ r, o = .src r ∧ ∀ s, f s = result (operandByte r s) (after s (operandReads r s))) :
    Reads mn (opcodesOf mn) result := by
  rintro i s rfl
  obtain ⟨f, hf, he⟩ := exec_runs i
  obtain ⟨r, ho, hr⟩ := h hf
  exact ⟨mode_opcodeOf_mem i, r, ho, by rw [he, hr]⟩

/-- Every row of a storing mnemonic has an address and answers the store of `value`. -/
theorem stores_of_runs {mn : Mnemonic} {value : State → Byte}
    (h : ∀ {opc o f}, Runs opc mn o f → ∃ m, o = .src (.mem m) ∧ ∀ s, f s = Next.store (value s) m s) :
    Stores mn (opcodesOf mn) value := by
  rintro i s rfl
  obtain ⟨f, hf, he⟩ := exec_runs i
  obtain ⟨m, ho, hm⟩ := h hf
  exact ⟨mode_opcodeOf_mem i, m, ho, by rw [he, hm, store_eq_after]⟩

end Sys2Proof.Claims
end

section
/-! PROOFS. The obligations of 40_load_store.md. -/

namespace Sys2Proof.Proofs

open Sys2Proof.Machine Sys2Proof.Claims

/-- Settles O29: a load's row is `Next.load` into its register, and its modes and opcodes are those of `opcodesOf`. -/
theorem loadsCopyTheOperand : Obligations.LoadsCopyTheOperand := by
  refine ⟨reads_of_runs fun h => ?_, reads_of_runs fun h => ?_, reads_of_runs fun h => ?_⟩
  · cases h with
    | lda o => exact ⟨o, rfl, load_eq_after State.setA o⟩
  · cases h with
    | ldx o => exact ⟨o, rfl, load_eq_after State.setX o⟩
  · cases h with
    | ldy o => exact ⟨o, rfl, load_eq_after State.setY o⟩

/-- Settles O30: a store's row is `Next.store` of its register, one write after the pointer reads. -/
theorem storesWriteOneByte : Obligations.StoresWriteOneByte := by
  refine ⟨stores_of_runs fun h => ?_, stores_of_runs fun h => ?_, stores_of_runs fun h => ?_⟩
  · cases h with
    | sta m => exact ⟨m, rfl, fun s => rfl⟩
  · cases h with
    | stx m => exact ⟨m, rfl, fun s => rfl⟩
  · cases h with
    | sty m => exact ⟨m, rfl, fun s => rfl⟩

end Sys2Proof.Proofs
end

section
/-! SUPPORT. The sum of 41_arithmetic.md over natural numbers and integers, with the operand and with its complement;
and the next state of the two mnemonics that add, in the terms of Claims. -/

namespace Sys2Proof.Machine

/-- A mask of bit 7. -/
theorem and_0x80_ne_zero (v : Byte) : ((v &&& 0x80) != 0) = v.getLsbD 7 := by
  revert v
  decide

/-! ### The sum (41_arithmetic.md R90) -/

theorem addResult_eq_ofNat (a m : Byte) (c : Bool) : addResult a m c = BitVec.ofNat 8 (addTotal a m c % 256) :=
  BitVec.eq_of_toNat_eq (by simp [addResult])

theorem addResult_toNat (a m : Byte) (c : Bool) :
    (addResult a m c).toNat = (a.toNat + m.toNat + c.toNat) % 256 := BitVec.toNat_ofNat _ _

/-- The sign test of R90 finds the sums that lie outside a signed byte. -/
theorem signTest_eq_decide (a m : Byte) (c : Bool) :
    (((a ^^^ addResult a m c) &&& (m ^^^ addResult a m c) &&& 0x80) != 0) =
      decide (a.toInt + m.toInt + c.toNat < -128 ∨ a.toInt + m.toInt + c.toNat > 127) := by
  have ha := a.isLt
  have hm := m.isLt
  have hc := c.toNat_le
  rw [and_0x80_ne_zero, BitVec.getLsbD_and, BitVec.getLsbD_xor, BitVec.getLsbD_xor, Flags.bit7_eq, Flags.bit7_eq,
    Flags.bit7_eq, addResult_toNat, BitVec.toInt_eq_toNat_cond, BitVec.toInt_eq_toNat_cond, Bool.eq_iff_iff]
  simp only [Bool.and_eq_true, bne_iff_ne, ne_eq, decide_eq_decide, decide_eq_true_eq]
  omega

/-- N, V, Z, C of the sum. -/
theorem Flags.afterAdd_eq_withNZ (p : Flags) (a m : Byte) :
    p.afterAdd a m = { Claims.withNZ p (addResult a m p.c) with
      c := decide (addTotal a m p.c > 255)
      v := decide (a.toInt + m.toInt + p.c.toNat < -128 ∨ a.toInt + m.toInt + p.c.toNat > 127) } := by
  rw [← signTest_eq_decide, ← Claims.setNZ_eq_withNZ]
  rfl

/-! ### The sum with the complement is the difference less the borrow (41_arithmetic.md R92) -/

theorem onesComplement_toNat (m : Byte) : (onesComplement m).toNat = 255 - m.toNat := by
  have h : onesComplement m = ~~~m := BitVec.xor_allOnes
  rw [h, BitVec.toNat_not]

theorem onesComplement_toInt (m : Byte) : (onesComplement m).toInt = -m.toInt - 1 := by
  have hm := m.isLt
  rw [BitVec.toInt_eq_toNat_cond, BitVec.toInt_eq_toNat_cond, onesComplement_toNat]
  omega

variable (a m : Byte) (c : Bool)

theorem addResult_onesComplement :
    addResult a (onesComplement m) c =
      BitVec.ofNat 8 ((a.toNat + 256 + 256 - m.toNat - (1 - c.toNat)) % 256) := by
  have hm := m.isLt
  have hc := c.toNat_le
  apply BitVec.eq_of_toNat_eq
  rw [addResult_toNat, onesComplement_toNat, BitVec.toNat_ofNat]
  omega

/-- The carry out is that no borrow was needed. -/
theorem addTotal_onesComplement_gt_iff :
    addTotal a (onesComplement m) c > 255 ↔ a.toNat ≥ m.toNat + (1 - c.toNat) := by
  have hm := m.isLt
  have hc := c.toNat_le
  rw [addTotal, onesComplement_toNat]
  omega

theorem signed_sum_onesComplement :
    a.toInt + (onesComplement m).toInt + c.toNat = a.toInt - m.toInt - (1 - c.toNat : Nat) := by
  have hc := c.toNat_le
  rw [onesComplement_toInt]
  omega

/-- Subtracting without borrow what was added without carry gives the byte back (41_arithmetic.md R93). -/
theorem addResult_onesComplement_addResult : addResult (addResult a m false) (onesComplement m) true = a := by
  have ha := a.isLt
  have hm := m.isLt
  apply BitVec.eq_of_toNat_eq
  rw [addResult_toNat, addResult_toNat, onesComplement_toNat, Bool.toNat_false, Bool.toNat_true]
  omega

end Sys2Proof.Machine

namespace Sys2Proof.Claims

open Sys2Proof.Machine

/-! An operand's accesses write neither A nor the flags, and no addressing mode reads a flag (30_encoding.md R58 to
R69). -/

@[simp] theorem after_operandReads_a (o : Src) (s : State) : (after s (operandReads o s)).a = s.a := by
  simpa [readSrc_eq_after] using readSrc_a o s

@[simp] theorem after_operandReads_p (o : Src) (s : State) : (after s (operandReads o s)).p = s.p := by
  simpa [readSrc_eq_after] using readSrc_p o s

theorem operandByte_setP (o : Src) (s : State) (p : Flags) : operandByte o (s.setP p) = operandByte o s := by
  cases o with
  | imm d8 => rfl
  | mem m => cases m <;> rfl

/-- Every row of the mnemonic adds `adjust` of its source operand. -/
def Adds (mn : Mnemonic) (adjust : Byte → Byte) : Prop :=
  ∀ {opc o f}, Runs opc mn o f → ∃ r, o = .src r ∧ f = Next.add adjust opc r

theorem adc_adds : Adds .adc id := by
  intro opc o f h
  cases h with
  | adc r => exact ⟨r, rfl, rfl⟩

theorem sbc_adds : Adds .sbc onesComplement := by
  intro opc o f h
  cases h with
  | sbc r => exact ⟨r, rfl, rfl⟩

/-- With D = 0: the operand's accesses, then the sum into A (41_arithmetic.md R90, R92). -/
theorem Adds.exec_eq {adjust : Byte → Byte} {i : Instr} {s : State} (h : Adds i.mnemonic adjust)
    (hd : s.p.d = false) :
    ∃ o, i.operand = .src o ∧
      exec i s = .next ((after s (operandReads o s)).addToA (adjust (operandByte o s))) := by
  obtain ⟨f, hf, he⟩ := exec_runs i
  obtain ⟨o, ho, rfl⟩ := h hf
  exact ⟨o, ho, by simp [he, Next.add, hd, readSrc_eq_after]⟩

theorem Adds.readsInBinaryMode {mn : Mnemonic} {adjust : Byte → Byte} {result : Byte → State → State}
    (h : Adds mn adjust) (hr : ∀ m s, State.addToA s (adjust m) = result m s) :
    ReadsInBinaryMode mn (opcodesOf mn) result := by
  rintro i s rfl hd
  obtain ⟨o, ho, he⟩ := h.exec_eq hd
  exact ⟨mode_opcodeOf_mem i, o, ho, by rw [he, hr]⟩

/-- The same for the operand and the outcome at hand. -/
theorem Adds.next_eq {adjust : Byte → Byte} {i : Instr} {o : Src} {s t : State} (h : Adds i.mnemonic adjust)
    (ho : i.operand = .src o) (hd : s.p.d = false) (ht : exec i s = .next t) :
    t = (after s (operandReads o s)).addToA (adjust (operandByte o s)) := by
  obtain ⟨r, hr, he⟩ := h.exec_eq hd
  obtain rfl : o = r := by simpa [ho] using hr
  simpa [ht] using he

end Sys2Proof.Claims
end

section
/-! PROOFS. The obligations of 41_arithmetic.md. -/

namespace Sys2Proof.Proofs

open Sys2Proof.Machine Sys2Proof.Claims

/-- Settles O31: the model's sum is the rule's, and its sign test the bounds of a signed byte. -/
theorem adcAddsWithCarry : Obligations.AdcAddsWithCarry := by
  refine adc_adds.readsInBinaryMode fun m s => ?_
  rw [State.addToA_eq, Flags.afterAdd_eq_withNZ, addResult_eq_ofNat]
  rfl

/-- Settles O32: adding the complement is subtracting with borrow, in the unsigned and in the signed reading. -/
theorem sbcSubtractsWithBorrow : Obligations.SbcSubtractsWithBorrow := by
  refine sbc_adds.readsInBinaryMode fun m s => ?_
  rw [State.addToA_eq, Flags.afterAdd_eq_withNZ, addResult_onesComplement, signed_sum_onesComplement,
    decide_eq_decide.mpr (addTotal_onesComplement_gt_iff s.a m s.p.c)]
  rfl

/-- Settles O34: both instructions are the sum into A, and the second is of the complement, with the carry set. -/
theorem sbcUndoesAdc : Obligations.SbcUndoesAdc := by
  intro i j o q s t u hi hj ho hq hd hc ht hm hu
  have hadc : Adds i.mnemonic id := hi ▸ adc_adds
  have hsbc : Adds j.mnemonic onesComplement := hj ▸ sbc_adds
  have et := hadc.next_eq ho hd ht
  have hta : t.a = addResult s.a (operandByte o s) false := by simp [et, State.addToA_eq, hc]
  have htd : t.p.d = false := by simp [et, State.addToA_eq, hd]
  have hua : u.a = addResult t.a (onesComplement (operandByte o s)) true := by
    rw [hsbc.next_eq (s := t.setP { t.p with c := true }) hq htd hu, operandByte_setP, hm]
    simp [State.addToA_eq]
  constructor
  · rw [hta, addResult_eq_ofNat]
    rfl
  · rw [hua, hta, addResult_onesComplement_addResult]

end Sys2Proof.Proofs
end

section
/-! SUPPORT. The flags of BIT as numbers; the two operations of 42_logic.md in the terms of Claims. -/

namespace Sys2Proof.Machine

/-- Bit 6 of a byte is that the rest below bit 7 is at least 64. -/
theorem Flags.bit6_eq (v : Byte) : v.getLsbD 6 = decide (v.toNat % 128 ≥ 64) := by
  rw [BitVec.getLsbD, Nat.testBit_eq_decide_div_mod_eq, decide_eq_decide]
  omega

/-- Z from the and of A and the operand, N and V from the operand (42_logic.md R98). -/
theorem Flags.afterBit_eq (p : Flags) (a m : Byte) :
    p.afterBit a m = { p with
      z := decide ((a &&& m).toNat = 0), n := decide (m.toNat ≥ 128), v := decide (m.toNat % 128 ≥ 64) } := by
  have hz : ((a &&& m) == 0) = decide ((a &&& m).toNat = 0) :=
    congrArg Flags.z (Claims.setNZ_eq_withNZ p (a &&& m))
  rw [afterBit, hz, bit7_eq, bit6_eq]

end Sys2Proof.Machine

namespace Sys2Proof.Claims

open Sys2Proof.Machine

/-- A bitwise operation: the operand's accesses, then the result into A, and N and Z from it (42_logic.md R95 to
R97). -/
theorem logic_eq_after (op : Byte → Byte → Byte) (o : Src) (s : State) :
    Next.logic op o s =
      let t := after s (operandReads o s)
      let r := op t.a (operandByte o s)
      (t.setA r).setP (withNZ t.p r) := by
  simp only [Next.logic, readSrc_eq_after, setNZ_eq_withNZ]

/-- BIT: the operand's accesses, then the flags alone (R98). -/
theorem bitTest_eq_after (o : Src) (s : State) :
    Next.bitTest o s =
      let m := operandByte o s
      let t := after s (operandReads o s)
      t.setP { t.p with
        z := decide ((t.a &&& m).toNat = 0), n := decide (m.toNat ≥ 128), v := decide (m.toNat % 128 ≥ 64) } := by
  simp only [Next.bitTest, readSrc_eq_after, Flags.afterBit_eq]

end Sys2Proof.Claims
end

section
/-! PROOFS. The obligations of 42_logic.md. -/

namespace Sys2Proof.Proofs

open Sys2Proof.Machine Sys2Proof.Claims

/-- Settles O35: the row of each mnemonic is `Next.logic` of its operation, and its modes and opcodes are those of
`opcodesOf`. -/
theorem logicOperations : Obligations.LogicOperations := by
  refine ⟨reads_of_runs fun h => ?_, reads_of_runs fun h => ?_, reads_of_runs fun h => ?_⟩
  · cases h with
    | and o => exact ⟨o, rfl, logic_eq_after (· &&& ·) o⟩
  · cases h with
    | ora o => exact ⟨o, rfl, logic_eq_after (· ||| ·) o⟩
  · cases h with
    | eor o => exact ⟨o, rfl, logic_eq_after (· ^^^ ·) o⟩

/-- Settles O36: BIT's row is `Next.bitTest`, whose three flags are the rule's. -/
theorem bitOnlyTests : Obligations.BitOnlyTests := by
  refine reads_of_runs fun h => ?_
  cases h with
  | bit o => exact ⟨o, rfl, bitTest_eq_after o⟩

end Sys2Proof.Proofs
end

section
/-! SUPPORT. A byte moved by one place as arithmetic; the change of a byte in the terms of Claims; and how a family of
instructions that change a byte has its statement from the table of next states. -/

namespace Sys2Proof.Machine

/-- Bit 0 of a byte is its being odd. -/
theorem bit0_eq (v : Byte) : v.getLsbD 0 = decide (v.toNat % 2 = 1) := Nat.testBit_zero _

/-- A move to the left with a bit entering at the right (43_shift_rotate.md R103): what is moved is even, so the bit is
added. -/
theorem shiftLeft_or_eq_ofNat (v : Byte) (c : Bool) :
    (v <<< 1) ||| BitVec.ofNat 8 c.toNat = BitVec.ofNat 8 ((2 * v.toNat + c.toNat) % 256) := by
  have hc : c.toNat < 2 ^ 1 := c.toNat_lt
  have hor := Nat.shiftLeft_add_eq_or_of_lt hc (v.toNat % 128)
  have hv : (v.toNat <<< 1) % 2 ^ 8 = (v.toNat % 128) <<< 1 := by omega
  apply BitVec.eq_of_toNat_eq
  rw [BitVec.toNat_or, BitVec.toNat_shiftLeft, BitVec.toNat_ofNat, BitVec.toNat_ofNat, hv,
    Nat.mod_eq_of_lt (by omega : c.toNat < 2 ^ 8), ← hor]
  omega

/-- A move to the right with a bit entering at the left (R104): what is moved is below 128, so the bit is added. -/
theorem shiftRight_or_eq_ofNat (v : Byte) (c : Bool) :
    (v >>> 1) ||| (BitVec.ofNat 8 c.toNat <<< 7) = BitVec.ofNat 8 (v.toNat / 2 + 128 * c.toNat) := by
  have hlt := v.isLt
  have hc := c.toNat_lt
  have hv : v.toNat >>> 1 < 2 ^ 7 := by omega
  have hor := Nat.shiftLeft_add_eq_or_of_lt hv c.toNat
  have hm : ((c.toNat % 2 ^ 8) <<< 7) % 2 ^ 8 = c.toNat <<< 7 := by omega
  apply BitVec.eq_of_toNat_eq
  rw [BitVec.toNat_or, BitVec.toNat_ushiftRight, BitVec.toNat_shiftLeft, BitVec.toNat_ofNat, BitVec.toNat_ofNat, hm,
    Nat.or_comm, ← hor]
  omega

/-! The moves with 0 entering (R101, R102). -/

theorem shiftLeft_one_eq_ofNat (v : Byte) : v <<< 1 = BitVec.ofNat 8 (2 * v.toNat % 256) := by
  simpa using shiftLeft_or_eq_ofNat v false

theorem shiftRight_one_eq_ofNat (v : Byte) : v >>> 1 = BitVec.ofNat 8 (v.toNat / 2) := by
  simpa using shiftRight_or_eq_ofNat v false

end Sys2Proof.Machine

namespace Sys2Proof.Claims

open Sys2Proof.Machine

/-- The model's change `f` of a byte is the one `Modifies` speaks of. -/
def Replaces (f : Byte → Flags → Byte × Flags) (r : Byte → Bool → Nat) (carry : Byte → Bool → Bool) : Prop :=
  ∀ v p, f v p = (BitVec.ofNat 8 (r v p.c), modifiedFlags r carry v p)

theorem asl_replaces : Replaces asl (fun v _ => 2 * v.toNat % 256) (fun v _ => decide (v.toNat ≥ 128)) := by
  intro v p
  rw [asl, setNZ_eq_withNZ, shiftLeft_one_eq_ofNat, Flags.bit7_eq]
  rfl

theorem lsr_replaces : Replaces lsr (fun v _ => v.toNat / 2) (fun v _ => decide (v.toNat % 2 = 1)) := by
  intro v p
  rw [lsr, setNZ_eq_withNZ, shiftRight_one_eq_ofNat, bit0_eq]
  rfl

theorem rol_replaces :
    Replaces rol (fun v c => (2 * v.toNat + c.toNat) % 256) (fun v _ => decide (v.toNat ≥ 128)) := by
  intro v p
  rw [rol, setNZ_eq_withNZ, shiftLeft_or_eq_ofNat, Flags.bit7_eq]
  rfl

theorem ror_replaces :
    Replaces ror (fun v c => v.toNat / 2 + 128 * c.toNat) (fun v _ => decide (v.toNat % 2 = 1)) := by
  intro v p
  rw [ror, setNZ_eq_withNZ, shiftRight_or_eq_ofNat, bit0_eq]
  rfl

/-- A change of a memory byte: the pointer reads, one read, then one write at the same address (R100; 44_inc_dec.md
R106, R107). -/
theorem modifyMem_eq_after (f : Byte → Flags → Byte × Flags) (m : AddrMode) (s : State) :
    Next.modifyMem f m s =
      let ea := (resolve m s).1
      let v := (after s (pointerReads m s)).answer ea
      { after s (pointerReads m s ++ [.read ea v, .write ea (f v s.p).1]) with p := (f v s.p).2 } := by
  have hr : (resolve m s).2 = after s (pointerReads m s) := congrArg Prod.snd (resolve_eq_after m s)
  have hp : (after s (pointerReads m s)).p = s.p := hr ▸ resolve_p m s
  simp only [Next.modifyMem, memRead_eq_afterAccess, hr, after_append]
  rw [← hp]
  rfl

/-- Every row of a mnemonic that changes a byte by `g` takes A, or has an address. -/
theorem modifies_of_runs {mn : Mnemonic} {g : Byte → Flags → Byte × Flags} {r : Byte → Bool → Nat}
    {carry : Byte → Bool → Bool} (hg : Replaces g r carry)
    (h : ∀ {opc o f}, Runs opc mn o f →
      (o = .acc ∧ ∀ s, f s = Next.modifyReg State.setA s.a g s) ∨ ∃ m, o = .src (.mem m) ∧ f = Next.modifyMem g m) :
    Modifies mn (opcodesOf mn) r carry := by
  rintro i s rfl
  refine ⟨mode_opcodeOf_mem i, ?_⟩
  obtain ⟨f, hf, he⟩ := exec_runs i
  rcases h hf with ⟨ho, hacc⟩ | ⟨m, ho, rfl⟩
  · refine .inl ⟨ho, ?_⟩
    rw [he, hacc, Next.modifyReg, hg]
    rfl
  · refine .inr ⟨m, ho, ?_⟩
    rw [he, modifyMem_eq_after]
    simp only [hg _ s.p]

end Sys2Proof.Claims
end

section
/-! PROOFS. The obligation of 43_shift_rotate.md. -/

namespace Sys2Proof.Proofs

open Sys2Proof.Machine Sys2Proof.Claims

/-- Settles O37: each row is the change of A or of a memory byte by the mnemonic's function, which is the rule's
arithmetic, and its modes and opcodes are those of `opcodesOf`. -/
theorem shiftsAndRotates : Obligations.ShiftsAndRotates := by
  refine ⟨modifies_of_runs asl_replaces fun h => ?_, modifies_of_runs lsr_replaces fun h => ?_,
    modifies_of_runs rol_replaces fun h => ?_, modifies_of_runs ror_replaces fun h => ?_⟩
  · cases h with
    | aslAcc => exact .inl ⟨rfl, fun s => rfl⟩
    | asl m => exact .inr ⟨m, rfl, rfl⟩
  · cases h with
    | lsrAcc => exact .inl ⟨rfl, fun s => rfl⟩
    | lsr m => exact .inr ⟨m, rfl, rfl⟩
  · cases h with
    | rolAcc => exact .inl ⟨rfl, fun s => rfl⟩
    | rol m => exact .inr ⟨m, rfl, rfl⟩
  · cases h with
    | rorAcc => exact .inl ⟨rfl, fun s => rfl⟩
    | ror m => exact .inr ⟨m, rfl, rfl⟩

end Sys2Proof.Proofs
end

section
/-! SUPPORT. One more and one less of a byte as arithmetic, and a change of a register, in the terms of Claims. -/

namespace Sys2Proof.Machine

/-- One more, modulo 256 (44_inc_dec.md R106). -/
theorem byte_add_one_eq_ofNat (v : Byte) : v + 1 = BitVec.ofNat 8 ((v.toNat + 1) % 256) := by
  bv_omega

/-- One less, modulo 256 (R107). -/
theorem byte_sub_one_eq_ofNat (v : Byte) : v - 1 = BitVec.ofNat 8 ((v.toNat + 255) % 256) := by
  bv_omega

end Sys2Proof.Machine

namespace Sys2Proof.Claims

open Sys2Proof.Machine

theorem inc_replaces : Replaces inc (fun v _ => (v.toNat + 1) % 256) (fun _ c => c) := by
  intro v p
  rw [inc, setNZ_eq_withNZ, byte_add_one_eq_ofNat]
  rfl

theorem dec_replaces : Replaces dec (fun v _ => (v.toNat + 255) % 256) (fun _ c => c) := by
  intro v p
  rw [dec, setNZ_eq_withNZ, byte_sub_one_eq_ofNat]
  rfl

/-- A change of a register: the new byte and its flags, and no access (R108 to R111). -/
theorem Replaces.modifyReg_next {g : Byte → Flags → Byte × Flags} {r : Byte → Bool → Nat} {carry : Byte → Bool → Bool}
    (h : Replaces g r carry) (set : State → Byte → State) (v : Byte) (s : State) :
    modifyReg set v g s = .next ((set s (BitVec.ofNat 8 (r v s.p.c))).setP (modifiedFlags r carry v s.p)) := by
  rw [modifyReg_eq, h]

end Sys2Proof.Claims
end

section
/-! PROOFS. The obligation of 44_inc_dec.md. -/

namespace Sys2Proof.Proofs

open Sys2Proof.Machine Sys2Proof.Claims

/-- Settles O38: a memory form is the change of a byte by `inc` or `dec`, a register form the same change of X or Y, and
both functions are the rule's arithmetic with the carry kept. -/
theorem incrementsAndDecrements : Obligations.IncrementsAndDecrements := by
  refine ⟨modifies_of_runs inc_replaces fun h => ?_, modifies_of_runs dec_replaces fun h => ?_,
    ⟨rfl, fun s => inc_replaces.modifyReg_next State.setX s.x s⟩,
    ⟨rfl, fun s => inc_replaces.modifyReg_next State.setY s.y s⟩,
    ⟨rfl, fun s => dec_replaces.modifyReg_next State.setX s.x s⟩,
    ⟨rfl, fun s => dec_replaces.modifyReg_next State.setY s.y s⟩⟩
  · cases h with
    | inc m => exact .inr ⟨m, rfl, rfl⟩
  · cases h with
    | dec m => exact .inr ⟨m, rfl, rfl⟩

end Sys2Proof.Proofs
end

section
/-! SUPPORT. The flags of a compare as numbers, and a compare in the terms of Claims. -/

namespace Sys2Proof.Claims

open Sys2Proof.Machine

/-- C, Z and N of the model's compare are the rule's: N is bit 7 of the difference modulo 256 (45_compare.md R113 to
R115). -/
theorem afterCompare_eq_comparedFlags (p : Flags) (r m : Byte) : p.afterCompare r m = comparedFlags r m p := by
  have hz : (r == m) = decide (r.toNat = m.toNat) := by
    rw [Bool.eq_iff_iff, beq_iff_eq, decide_eq_true_iff, BitVec.toNat_eq]
  have hn : (r - m).toNat = (r.toNat + 256 - m.toNat) % 256 := by bv_omega
  rw [Flags.afterCompare, hz, Flags.bit7_eq, hn]
  rfl

/-- A compare of a register that the operand's accesses leave alone: those accesses, then the flags alone. -/
theorem compare_eq_after {reg : State → Byte} (hreg : ∀ o s, reg (readSrc o s).2 = reg s) (o : Src) (s : State) :
    Next.compare (reg s) o s =
      let t := after s (operandReads o s)
      t.setP (comparedFlags (reg t) (operandByte o s) t.p) := by
  rw [← hreg o s]
  simp only [Next.compare, readSrc_eq_after, afterCompare_eq_comparedFlags]

end Sys2Proof.Claims
end

section
/-! PROOFS. The obligation of 45_compare.md. -/

namespace Sys2Proof.Proofs

open Sys2Proof.Machine Sys2Proof.Claims

/-- Settles O39: the row of each mnemonic is `Next.compare` of its register, which the operand's accesses leave alone,
and its modes and opcodes are those of `opcodesOf`. -/
theorem compares : Obligations.Compares := by
  refine ⟨reads_of_runs fun h => ?_, reads_of_runs fun h => ?_, reads_of_runs fun h => ?_⟩
  · cases h with
    | cmp o => exact ⟨o, rfl, compare_eq_after readSrc_a o⟩
  · cases h with
    | cpx o => exact ⟨o, rfl, compare_eq_after readSrc_x o⟩
  · cases h with
    | cpy o => exact ⟨o, rfl, compare_eq_after readSrc_y o⟩

end Sys2Proof.Proofs
end

section
/-! SUPPORT. The bytes of an instruction with a branch offset, and a branch in the terms of Claims. -/

namespace Sys2Proof

/-- An instruction with a branch offset is its opcode byte and that offset (30_encoding.md R54, 46_branch.md R118 to
R125). -/
theorem encode_of_operand_rel {i : Instr} {d8 : Byte} (h : i.operand = .rel d8) : encode i = [opcodeOf i, d8] := by
  cases i with
  | bcc d | bcs d | beq d | bne d | bmi d | bpl d | bvc d | bvs d =>
    obtain rfl : d = d8 := Operand.rel.inj h
    rfl
  | _ => nomatch h

end Sys2Proof

namespace Sys2Proof.Claims

open Sys2Proof.Machine

/-- A branch writes PC alone, and only if it is taken (46_branch.md R117). -/
theorem branch_eq_ite (cond : Bool) (d8 : Byte) (s : State) :
    Next.branch cond d8 s = if cond then { s with pc := BitVec.ofInt 16 (s.pc.toNat + d8.toInt) } else s := by
  rw [Next.branch, branchTarget_eq_ofInt]
  rfl

/-- The one row of a branching mnemonic has an offset and answers the branch on `cond`. -/
theorem branches_of_runs {mn : Mnemonic} {opc : Byte} {cond : Flags → Bool} (hopc : opcodesOf mn = [(.rel, opc)])
    (h : ∀ {opc o f}, Runs opc mn o f → ∃ d8, o = .rel d8 ∧ ∀ s, f s = Next.branch (cond s.p) d8 s) :
    Branches mn opc cond := by
  rintro i s rfl
  obtain ⟨f, hf, he⟩ := exec_runs i
  obtain ⟨d8, ho, hb⟩ := h hf
  have hi : opcodeOf i = opc := by simpa [hopc] using opcodeOf_mem i
  exact ⟨d8, ho, hi ▸ encode_of_operand_rel ho, by rw [he, hb, branch_eq_ite]⟩

end Sys2Proof.Claims
end

section
/-! PROOFS. The obligation of 46_branch.md. -/

namespace Sys2Proof.Proofs

open Sys2Proof.Machine Sys2Proof.Claims

/-- Settles O40: the row of each mnemonic is `Next.branch` on the flag of its name, and its opcode is the one of
`opcodesOf`. -/
theorem branchesTakeOrFallThrough : Obligations.BranchesTakeOrFallThrough := by
  refine ⟨branches_of_runs rfl fun h => ?_, branches_of_runs rfl fun h => ?_, branches_of_runs rfl fun h => ?_,
    branches_of_runs rfl fun h => ?_, branches_of_runs rfl fun h => ?_, branches_of_runs rfl fun h => ?_,
    branches_of_runs rfl fun h => ?_, branches_of_runs rfl fun h => ?_⟩
  · cases h with
    | bcc d8 => exact ⟨d8, rfl, fun s => rfl⟩
  · cases h with
    | bcs d8 => exact ⟨d8, rfl, fun s => rfl⟩
  · cases h with
    | beq d8 => exact ⟨d8, rfl, fun s => rfl⟩
  · cases h with
    | bne d8 => exact ⟨d8, rfl, fun s => rfl⟩
  · cases h with
    | bmi d8 => exact ⟨d8, rfl, fun s => rfl⟩
  · cases h with
    | bpl d8 => exact ⟨d8, rfl, fun s => rfl⟩
  · cases h with
    | bvc d8 => exact ⟨d8, rfl, fun s => rfl⟩
  · cases h with
    | bvs d8 => exact ⟨d8, rfl, fun s => rfl⟩

end Sys2Proof.Proofs
end

section
/-! SUPPORT. The stack operations, the call, the trap entry and the two returns of 47_jump_call_interrupt.md in the
terms of Claims. -/

namespace Sys2Proof.Machine

/-- The status byte that PHP and BRK push reloads as the flags with B set (10_state.md R15, R16). -/
theorem Flags.fromByte_pushedBySoftware (p : Flags) : fromByte p.pushedBySoftware = { p with b := true } := by
  simp only [fromByte, pushedBySoftware, BitVec.getLsbD_or, toByte_bits]
  simp

end Sys2Proof.Machine

namespace Sys2Proof.Claims

open Sys2Proof.Machine

/-! ### An SP counted in single steps, as pushes and pulls count it -/

theorem byte_sub_two (v : Byte) : v - 2 = v - 1 - 1 := by bv_omega
theorem byte_sub_three (v : Byte) : v - 3 = v - 1 - 1 - 1 := by bv_omega
theorem byte_add_two (v : Byte) : v + 2 = v + 1 + 1 := by bv_omega
theorem byte_add_three (v : Byte) : v + 3 = v + 1 + 1 + 1 := by bv_omega

/-! ### An access neither reads nor writes SP or P -/

section
variable (s : State) (e : Access)

@[simp] theorem afterAccess_setSp (v : Byte) : afterAccess (s.setSp v) e = (afterAccess s e).setSp v := by
  cases e <;> rfl
@[simp] theorem afterAccess_setP (v : Flags) : afterAccess (s.setP v) e = (afterAccess s e).setP v := by
  cases e <;> rfl
@[simp] theorem readOf_setSp (v : Byte) (a : Word) : readOf (s.setSp v) a = readOf s a := rfl
@[simp] theorem readOf_setP (v : Flags) (a : Word) : readOf (s.setP v) a = readOf s a := rfl

end

/-! ### A push and a pull as one access and a move of SP (20_memory.md R37) -/

theorem push_eq_setSp (s : State) (v : Byte) :
    s.push v = (afterAccess s (.write (stackLoc s.sp) v)).setSp (s.sp - 1) := by
  rw [State.push_eq, memWrite_eq_afterAccess, stackLoc_eq]

theorem pull_eq_setSp (s : State) :
    s.pull = (s.answer (stackLoc (s.sp + 1)),
      (afterAccess s (readOf s (stackLoc (s.sp + 1)))).setSp (s.sp + 1)) := by
  rw [State.pull_eq, memRead_eq_afterAccess, stackLoc_eq, State.answer_setSp, readOf_setSp, afterAccess_setSp]

/-! ### Whole next states -/

/-- A jump: the pointer reads of the mode, then PC (R126). -/
theorem jump_eq_after (m : AddrMode) (s : State) :
    Next.jump m s = { after s (pointerReads m s) with pc := effectiveAddress m s } := by
  rw [Next.jump, resolve_eq_after]
  rfl

/-- JSR: two writes, high byte first (R127). -/
theorem call_eq_after (a : Word) (s : State) :
    let ret := s.pc - 1
    s.call a = { after s [.write (stackLoc s.sp) (hiByte ret), .write (stackLoc (s.sp - 1)) (loByte ret)] with
      pc := a
      sp := s.sp - 2 } := by
  simp only [State.call_eq, push_eq_setSp, afterAccess_setSp, State.setSp_sp, byte_sub_two]
  rfl

/-- RTS: two reads, low byte first, and one more than the Word they give (R128). -/
theorem returnFromCall_eq_after (s : State) :
    s.returnFromCall =
      let lo := stackLoc (s.sp + 1)
      let hi := stackLoc (s.sp + 2)
      { after s (readsOf [lo, hi] s) with
        pc := BitVec.ofNat 16 (((wordFrom lo hi s).toNat + 1) % 65536)
        sp := s.sp + 2 } := by
  simp only [State.returnFromCall_eq, pull_eq_setSp, State.setSp_sp, State.answer_setSp, readOf_setSp,
    afterAccess_setSp, byte_add_two, ← add_one_eq_ofNat, wordFrom, joinBytes_eq_word]
  rfl

/-- RTI: the flags from the first read, PC from the next two as RTS reads it, with nothing added (R130). -/
theorem returnFromTrap_eq_after (s : State) :
    s.returnFromTrap =
      let status := stackLoc (s.sp + 1)
      let lo := stackLoc (s.sp + 2)
      let hi := stackLoc (s.sp + 3)
      { after s (readsOf [status, lo, hi] s) with
        p := .fromByte (s.answer status)
        pc := wordFrom lo hi (after s [readOf s status])
        sp := s.sp + 3 } := by
  simp only [State.returnFromTrap_eq, pull_eq_setSp, State.setSp_sp, State.setP_sp, State.answer_setSp,
    State.answer_setP, readOf_setSp, readOf_setP, afterAccess_setSp, afterAccess_setP, byte_add_two,
    byte_add_three, wordFrom, joinBytes_eq_word]
  rfl

/-- The trap entry sequence (60_exceptions.md R169). -/
theorem service_eq_afterTrapEntry (s : State) (vec : Word) (b4 : Bool) :
    s.service vec b4 =
      afterTrapEntry s s.pc (if b4 then s.p.pushedBySoftware else s.p.pushedByInterrupt) vec := by
  simp only [afterTrapEntry, State.service_eq, push_eq_setSp, State.read16_eq, memRead_eq_afterAccess, State.setSp_sp,
    State.answer_setSp, State.answer_setP, readOf_setSp, readOf_setP, afterAccess_setSp, afterAccess_setP, byte_sub_two,
    byte_sub_three, wordFrom, joinBytes_eq_word]
  rfl

theorem service_sp (s : State) (vec : Word) (b4 : Bool) : (s.service vec b4).sp = s.sp - 3 := by
  rw [service_eq_afterTrapEntry, afterTrapEntry]

/-! ### What pulls are answered with -/

theorem pulled_zero (s : State) : pulled 0 s = [] := rfl

/-- The answers to more pulls: the first pull's, then those of the state after it. -/
theorem pulled_succ (n : Nat) (s : State) : pulled (n + 1) s = s.pull.1 :: pulled n s.pull.2 := by
  have hsp (k : Nat) : s.sp + 1 + BitVec.ofNat 8 (k + 1) = s.sp + BitVec.ofNat 8 (k + 1 + 1) := by
    rw [BitVec.add_assoc, BitVec.add_comm 1, BitVec.ofNat_add (k + 1) 1]
    rfl
  have hreads (l : List Word) (t : State) (v : Byte) : readsOf l (t.setSp v) = readsOf l t :=
    readsOf_congr (s := t) (t := t.setSp v) rfl l
  rw [pulled, List.range_succ_eq_map]
  simp only [pulled, List.map_cons, List.map_map, readsOf, pull_eq_setSp, State.setSp_sp, hsp, hreads]
  rfl

/-- What an RTS makes of its pulls (R128). -/
theorem returnFromCall_of_pulled {u : State} {lo hi : Byte} (h : pulled 2 u = [lo, hi]) :
    u.returnFromCall.pc = joinBytes hi lo + 1 ∧ u.returnFromCall.sp = u.sp + 2 := by
  simp only [pulled_succ, pulled_zero, List.cons.injEq, and_true] at h
  obtain ⟨rfl, rfl⟩ := h
  exact ⟨rfl, by rw [returnFromCall_eq_after]⟩

/-- What an RTI makes of its pulls (R130). -/
theorem returnFromTrap_of_pulled {u : State} {status lo hi : Byte} (h : pulled 3 u = [status, lo, hi]) :
    u.returnFromTrap.pc = joinBytes hi lo ∧ u.returnFromTrap.sp = u.sp + 3 ∧
      u.returnFromTrap.p = .fromByte status := by
  simp only [pulled_succ, pulled_zero, List.cons.injEq, and_true] at h
  obtain ⟨rfl, rfl, rfl⟩ := h
  exact ⟨rfl, by rw [returnFromTrap_eq_after], rfl⟩

/-! ### The stack page in RAM (log 1) -/

/-- Reads of storage are answered with what it holds, because a read changes no storage. -/
theorem readsOf_storage {l : List Word} {s : State} (h : ∀ a ∈ l, s.backing a ≠ .device) :
    (readsOf l s).map valueOf = l.map s.peek := by
  induction l generalizing s with
  | nil => rfl
  | cons a l ih =>
    obtain ⟨ha, hl⟩ := List.forall_mem_cons.mp h
    exact congrArg₂ List.cons (s.answer_storage ha) (ih hl)

/-- Pulls from RAM are answered with the bytes above SP, in rising order. -/
theorem StackIsRam.pulled_eq {s : State} (h : StackIsRam s) (n : Nat) :
    pulled n s = (List.range n).map fun k => s.peek (stackLoc (s.sp + BitVec.ofNat 8 (k + 1))) := by
  rw [pulled, readsOf_storage, List.map_map]
  · rfl
  · rintro _ ha
    obtain ⟨k, -, rfl⟩ := List.mem_map.mp ha
    simp [h _]

/-- A push writes at no other SP's location. -/
theorem peek_push_stackLoc {s : State} {k : Byte} (v : Byte) (hk : k ≠ s.sp) :
    (s.push v).peek (stackLoc k) = s.peek (stackLoc k) :=
  s.peek_push_ne v (by simpa [stackLoc_eq] using hk)

theorem StackIsRam.congr {s u : State} (h : StackIsRam s) (hr : u.regions = s.regions) : StackIsRam u := fun k => by
  rw [State.backing, hr]
  exact h k

section
variable {s : State} (h : StackIsRam s)
include h

theorem StackIsRam.push (v : Byte) : StackIsRam (s.push v) := h.congr (s.push_regions v)

theorem StackIsRam.peek_push_same (v : Byte) : (s.push v).peek (stackLoc s.sp) = v := by
  rw [stackLoc_eq]
  exact s.peek_push_same v (stackLoc_eq s.sp ▸ h s.sp)

theorem StackIsRam.peek_push_push (v w : Byte) :
    let t := (s.push v).push w
    t.peek (stackLoc s.sp) = v ∧ t.peek (stackLoc (s.sp - 1)) = w := by
  have hne : s.sp ≠ s.sp - 1 := by bv_omega
  rw [← State.push_sp s v] at hne ⊢
  exact ⟨(peek_push_stackLoc w hne).trans (h.peek_push_same v), (h.push v).peek_push_same w⟩

/-- Both bytes of a JSR. -/
theorem StackIsRam.peek_call (a : Word) :
    let t := s.call a
    t.peek (stackLoc s.sp) = hiByte (s.pc - 1) ∧ t.peek (stackLoc (s.sp - 1)) = loByte (s.pc - 1) := by
  simp only [State.call_eq, State.peek_setPc]
  exact h.peek_push_push _ _

/-- The three bytes of a trap entry. -/
theorem StackIsRam.peek_service (vec : Word) (b4 : Bool) :
    let t := s.service vec b4
    t.peek (stackLoc s.sp) = hiByte s.pc ∧ t.peek (stackLoc (s.sp - 1)) = loByte s.pc ∧
      t.peek (stackLoc (s.sp - 2)) = if b4 then s.p.pushedBySoftware else s.p.pushedByInterrupt := by
  have h0 : s.sp ≠ s.sp - 2 := by bv_omega
  have h1 : s.sp - 1 ≠ s.sp - 2 := by bv_omega
  obtain ⟨hhi, hlo⟩ := h.peek_push_push (hiByte s.pc) (loByte s.pc)
  have hsp (v w : Byte) : ((s.push v).push w).sp = s.sp - 2 := by rw [State.push_sp, State.push_sp, byte_sub_two]
  simp only [State.service_eq, State.read16_eq, State.peek_setPc, State.peek_memRead, State.peek_setP]
  rw [← hsp (hiByte s.pc) (loByte s.pc)] at h0 h1 ⊢
  exact ⟨(peek_push_stackLoc _ h0).trans hhi, (peek_push_stackLoc _ h1).trans hlo,
    ((h.push _).push _).peek_push_same _⟩

variable {u : State} (hr : u.regions = s.regions)
include hr

/-- While the bytes that a JSR pushed stand in storage, pulls are answered with them. -/
theorem StackIsRam.pulled_call (a : Word) (hsp : u.sp = s.sp - 2)
    (hu : ∀ k ∈ [s.sp, s.sp - 1], u.peek (stackLoc k) = (s.call a).peek (stackLoc k)) :
    pulled 2 u = [loByte (s.pc - 1), hiByte (s.pc - 1)] := by
  obtain ⟨hhi, hlo⟩ := h.peek_call a
  simp only [List.forall_mem_cons, hhi, hlo] at hu
  obtain ⟨h0, h1, -⟩ := hu
  rw [(h.congr hr).pulled_eq, hsp]
  change [u.peek (stackLoc (s.sp - 2 + 1)), u.peek (stackLoc (s.sp - 2 + 2))] = _
  simp only [byte_sub_two, byte_add_two, BitVec.sub_add_cancel, h0, h1]

/-- While the bytes that a trap entry pushed stand in storage, pulls are answered with them. -/
theorem StackIsRam.pulled_service (vec : Word) (b4 : Bool) (hsp : u.sp = s.sp - 3)
    (hu : ∀ k ∈ [s.sp, s.sp - 1, s.sp - 2], u.peek (stackLoc k) = (s.service vec b4).peek (stackLoc k)) :
    pulled 3 u =
      [if b4 then s.p.pushedBySoftware else s.p.pushedByInterrupt, loByte s.pc, hiByte s.pc] := by
  obtain ⟨hhi, hlo, hst⟩ := h.peek_service vec b4
  simp only [List.forall_mem_cons, hhi, hlo, hst] at hu
  obtain ⟨h0, h1, h2, -⟩ := hu
  rw [byte_sub_two] at h2
  rw [(h.congr hr).pulled_eq, hsp]
  change [u.peek (stackLoc (s.sp - 3 + 1)), u.peek (stackLoc (s.sp - 3 + 2)), u.peek (stackLoc (s.sp - 3 + 3))] = _
  simp only [byte_sub_three, byte_add_two, byte_add_three, BitVec.sub_add_cancel, h0, h1, h2]

end

end Sys2Proof.Claims
end

section
/-! PROOFS. The obligations of 47_jump_call_interrupt.md. -/

namespace Sys2Proof.Proofs

open Sys2Proof.Machine Sys2Proof.Claims

/-- Settles O41: PC takes what the resolver gives, after the resolver's pointer reads. -/
theorem jumpsGoToTheAddress : Obligations.JumpsGoToTheAddress :=
  fun a s => ⟨rfl, rfl, rfl, congrArg Host.Outcome.next (jump_eq_after (.ind a) s)⟩

/-- Settles O43: JSR is two pushes and a write of PC. -/
theorem jsrPushesTheReturnAddress : Obligations.JsrPushesTheReturnAddress := by
  intro a s
  refine ⟨rfl, s.call a, rfl, call_eq_after a s, fun h => h.peek_call a, fun b hb hb' => ?_⟩
  rw [stackLoc_eq] at hb hb'
  exact State.peek_call_frame a (by simp only [List.mem_cons, hb, hb', List.not_mem_nil, or_self, false_implies])

/-- Settles O44: both pulls as accesses of the old state. -/
theorem rtsPullsTheReturnAddress : Obligations.RtsPullsTheReturnAddress :=
  ⟨rfl, fun s => congrArg Host.Outcome.next (returnFromCall_eq_after s)⟩

/-- Settles O45: what RTS pulls is PC minus 1, and it adds 1. -/
theorem rtsReturnsAfterTheJsr : Obligations.RtsReturnsAfterTheJsr := by
  intro a s
  refine ⟨s.call a, rfl, fun u hsp => ?_⟩
  have h2 : u.sp = s.sp - 2 := by rw [hsp, call_eq_after]
  refine ⟨fun hp => ⟨u.returnFromCall, rfl, ?_⟩, fun h hr hu => h.pulled_call hr a h2 hu⟩
  obtain ⟨hpc, hsp'⟩ := returnFromCall_of_pulled hp
  rw [hpc, hsp', h2, joinBytes_hiByte_loByte]
  exact ⟨BitVec.sub_add_cancel .., BitVec.sub_add_cancel ..⟩

/-- Settles O46: BRK is the trap entry from a PC one further, which it pushes and then overwrites. -/
theorem brkTakesTheTrap : Obligations.BrkTakesTheTrap :=
  ⟨rfl, fun s => congrArg Host.Outcome.next (service_eq_afterTrapEntry (s.setPc (s.pc + 1)) Config.vecIrq true)⟩

/-- Settles O47: the three pulls as accesses of the old state. -/
theorem rtiRestoresFlagsAndPc : Obligations.RtiRestoresFlagsAndPc :=
  ⟨rfl, fun s => congrArg Host.Outcome.next (returnFromTrap_eq_after s)⟩

/-- Settles O48: RTI undoes the trap entry but for B, which the pushed byte has set. -/
theorem rtiAfterBrk : Obligations.RtiAfterBrk := by
  intro s
  refine ⟨(s.setPc (s.pc + 1)).service Config.vecIrq true, rfl, fun u hsp => ?_⟩
  have h3 : u.sp = s.sp - 3 := hsp.trans (service_sp ..)
  refine ⟨fun hp => ⟨u.returnFromTrap, rfl, ?_⟩, fun h hr hu => ?_⟩
  · obtain ⟨hpc, hsp', hflags⟩ := returnFromTrap_of_pulled hp
    rw [hpc, hsp', h3, joinBytes_hiByte_loByte]
    exact ⟨rfl, BitVec.sub_add_cancel .., hflags.trans (Flags.fromByte_pushedBySoftware s.p)⟩
  · have hram : StackIsRam (s.setPc (s.pc + 1)) := h
    exact hram.pulled_service hr Config.vecIrq true h3 hu

end Sys2Proof.Proofs
end

section
/-! SUPPORT. Every host action keeps the invariant of Safety.lean. -/

namespace Sys2Proof.Machine

theorem State.Inv.request {s : State} (h : s.Inv) (r : Request) : (s.request r).Inv := by
  cases r with
  | reset | nmi | irq => exact h.of_same_record h.memory rfl rfl

theorem State.Inv.act {s t : State} (h : s.Inv) {a : HostAction} (ht : s.act a = .next t) : t.Inv := by
  cases a with
  | step => exact Proofs.everyStepKeepsTheInvariant s t h ht
  | request r =>
    cases ht
    exact h.request r
  | writeByte addr val =>
    cases ht
    exact h.of_same_record (Memory.wf_writeByte h.memory addr val) rfl rfl
  | devicesBecome d | regionsBecome l =>
    cases ht
    exact h.of_same_record h.memory rfl rfl

end Sys2Proof.Machine
end

section
/-! PROOFS. The obligation of Safety.lean over every sequence of host actions. -/

namespace Sys2Proof.Proofs

open Sys2Proof.Machine

/-- Settles O59, by induction on the host actions. -/
theorem everyReachableStateMeetsTheInvariant : Obligations.EveryReachableStateMeetsTheInvariant := by
  intro s t h ht
  induction ht with
  | refl => exact h
  | act a _ ha ih => exact ih.act ha

end Sys2Proof.Proofs
end

section
/-! SUPPORT. A push, the pulls into A and P and a transfer in the terms of Claims. -/

namespace Sys2Proof.Machine

/-- Bit 5 of the status byte is set already (10_state.md R15). -/
theorem Flags.toByte_or_0x20 (p : Flags) : p.toByte ||| 0x20 = p.toByte := by
  rw [← toByte_fromByte, fromByte_toByte]

/-- Bits 4 and 5 of the byte that PHP pushes are set (48_stack_transfer.md R133). -/
theorem Flags.pushedBySoftware_eq (p : Flags) : p.pushedBySoftware = p.toByte ||| 0x30 := by
  calc p.toByte ||| 0x10
      = p.toByte ||| 0x20 ||| 0x10 := by rw [toByte_or_0x20]
    _ = p.toByte ||| 0x30 := BitVec.or_assoc ..

end Sys2Proof.Machine

namespace Sys2Proof.Claims

open Sys2Proof.Machine

/-- PLA: one read, then SP, A, N and Z (48_stack_transfer.md R134). -/
theorem pullA_eq_after (s : State) :
    s.pullA =
      let v := s.answer (stackLoc (s.sp + 1))
      { after s [readOf s (stackLoc (s.sp + 1))] with sp := s.sp + 1, a := v, p := withNZ s.p v } := by
  rw [State.pullA_eq, pull_eq_setSp, setNZ_eq_withNZ]
  rfl

/-- PLP: one read, then SP and the flags (R135). -/
theorem pullP_eq_after (s : State) :
    s.pullP =
      { after s [readOf s (stackLoc (s.sp + 1))] with
        sp := s.sp + 1, p := .fromByte (s.answer (stackLoc (s.sp + 1))) } := by
  rw [State.pullP_eq, pull_eq_setSp]
  rfl

/-- A transfer with flags: the register, N and Z (R136 to R140). -/
theorem transfer_next (set : State → Byte → State) (v : Byte) (s : State) :
    transfer set v s = .next ((set s v).setP (withNZ s.p v)) := by
  rw [transfer_eq, setNZ_eq_withNZ]

end Sys2Proof.Claims
end

section
/-! PROOFS. The obligations of 48_stack_transfer.md. -/

namespace Sys2Proof.Proofs

open Sys2Proof.Machine Sys2Proof.Claims

/-- Settles O50: each push and each pull is one access of the old state and a move of SP. -/
theorem stackInstructions : Obligations.StackInstructions := by
  refine ⟨⟨rfl, fun s => ?_⟩, ⟨rfl, fun s => ?_⟩, ⟨rfl, fun s => ?_⟩, ⟨rfl, fun s => ?_⟩⟩
  · exact congrArg Host.Outcome.next (push_eq_setSp s s.a)
  · beta_reduce
    rw [← s.p.pushedBySoftware_eq]
    exact congrArg Host.Outcome.next (push_eq_setSp s s.p.pushedBySoftware)
  · exact congrArg Host.Outcome.next (pullA_eq_after s)
  · exact congrArg Host.Outcome.next (pullP_eq_after s)

/-- Settles O51: five transfers set N and Z from the byte copied; TXS writes SP alone. -/
theorem transfers : Obligations.Transfers :=
  ⟨⟨rfl, fun s => transfer_next State.setX s.a s⟩, ⟨rfl, fun s => transfer_next State.setY s.a s⟩,
    ⟨rfl, fun s => transfer_next State.setA s.x s⟩, ⟨rfl, fun s => transfer_next State.setA s.y s⟩,
    ⟨rfl, fun s => transfer_next State.setX s.sp s⟩, ⟨rfl, fun _ => rfl⟩⟩

end Sys2Proof.Proofs
end

section
/-! PROOFS. The obligation of 49_flag_nop.md. -/

namespace Sys2Proof.Proofs

/-- Settles O52: each meaning is the write of its one flag, and NOP's is the identity. -/
theorem flagInstructionsAndNop : Obligations.FlagInstructionsAndNop :=
  ⟨⟨rfl, fun _ => rfl⟩, ⟨rfl, fun _ => rfl⟩, ⟨rfl, fun _ => rfl⟩, ⟨rfl, fun _ => rfl⟩, ⟨rfl, fun _ => rfl⟩,
    ⟨rfl, fun _ => rfl⟩, ⟨rfl, fun _ => rfl⟩, ⟨rfl, fun _ => rfl⟩⟩

end Sys2Proof.Proofs
end

section
/-! SUPPORT. What a list of accesses leaves unchanged, and what it depends on. -/

namespace Sys2Proof.Claims

open Sys2Proof.Machine

/-- Accesses change storage, what the devices hold and the trace, and nothing else (20_memory.md R31, R39). -/
theorem after_eq (s : State) (l : List Access) :
    ∃ m d, after s l = ((s.setMem m).setDevices d).setTrace (s.trace ++ l) := by
  induction l generalizing s with
  | nil => exact ⟨s.mem, s.devices, by rw [List.append_nil]; rfl⟩
  | cons e l ih =>
    obtain ⟨m, d, h⟩ := ih (afterAccess s e)
    refine ⟨m, d, h.trans ?_⟩
    cases e <;> simp [afterAccess, State.setMem, State.setDevices, State.setTrace]

section fields

variable (s : State) (l : List Access)

@[simp] theorem after_a : (after s l).a = s.a := by obtain ⟨m, d, h⟩ := after_eq s l; simp [h]
@[simp] theorem after_x : (after s l).x = s.x := by obtain ⟨m, d, h⟩ := after_eq s l; simp [h]
@[simp] theorem after_y : (after s l).y = s.y := by obtain ⟨m, d, h⟩ := after_eq s l; simp [h]
@[simp] theorem after_sp : (after s l).sp = s.sp := by obtain ⟨m, d, h⟩ := after_eq s l; simp [h]
@[simp] theorem after_pc : (after s l).pc = s.pc := by obtain ⟨m, d, h⟩ := after_eq s l; simp [h]
@[simp] theorem after_p : (after s l).p = s.p := by obtain ⟨m, d, h⟩ := after_eq s l; simp [h]
@[simp] theorem after_run : (after s l).run = s.run := by obtain ⟨m, d, h⟩ := after_eq s l; simp [h]
@[simp] theorem after_pendReset : (after s l).pendReset = s.pendReset := by obtain ⟨m, d, h⟩ := after_eq s l; simp [h]
@[simp] theorem after_pendNmi : (after s l).pendNmi = s.pendNmi := by obtain ⟨m, d, h⟩ := after_eq s l; simp [h]
@[simp] theorem after_pendIrq : (after s l).pendIrq = s.pendIrq := by obtain ⟨m, d, h⟩ := after_eq s l; simp [h]
@[simp] theorem after_fault : (after s l).fault = s.fault := by obtain ⟨m, d, h⟩ := after_eq s l; simp [h]
@[simp] theorem after_regions : (after s l).regions = s.regions := by obtain ⟨m, d, h⟩ := after_eq s l; simp [h]
@[simp] theorem after_resetDraws : (after s l).resetDraws = s.resetDraws := by obtain ⟨m, d, h⟩ := after_eq s l; simp [h]
@[simp] theorem after_trace : (after s l).trace = s.trace ++ l := by obtain ⟨m, d, h⟩ := after_eq s l; simp [h]

end fields

/-- Reads change no storage. -/
@[simp] theorem after_readsOf_mem (l : List Word) (s : State) : (after s (readsOf l s)).mem = s.mem := by
  induction l generalizing s with
  | nil => rfl
  | cons a l ih => exact ih _

/-- Nor do an operand's reads. -/
@[simp] theorem after_operandReads_mem (o : Src) (s : State) : (after s (operandReads o s)).mem = s.mem := by
  simpa [readSrc_eq_after] using readSrc_mem o s

/-- What accesses do to the collaborator depends on the collaborator alone. -/
theorem after_collaborator_congr {s t : State} (h : t.collaborator = s.collaborator) (l : List Access) :
    (after t l).collaborator = (after s l).collaborator := by
  induction l generalizing s t with
  | nil => exact h
  | cons e l ih => exact ih (afterAccess_collaborator_congr h e)

/-! A fetch moves PC and makes reads (30_encoding.md R51). -/

section fetch

variable (s : State) (i : Instr)

@[simp] theorem afterFetch_a : (afterFetch s i).a = s.a := by simp [afterFetch]
@[simp] theorem afterFetch_x : (afterFetch s i).x = s.x := by simp [afterFetch]
@[simp] theorem afterFetch_y : (afterFetch s i).y = s.y := by simp [afterFetch]
@[simp] theorem afterFetch_sp : (afterFetch s i).sp = s.sp := by simp [afterFetch]
@[simp] theorem afterFetch_p : (afterFetch s i).p = s.p := by simp [afterFetch]
@[simp] theorem afterFetch_pc : (afterFetch s i).pc = s.pc + BitVec.ofNat 16 i.length := rfl
@[simp] theorem afterFetch_mem : (afterFetch s i).mem = s.mem := by
  have hc : (s.setTrace []).collaborator = s.collaborator := rfl
  exact (congrArg Prod.fst (after_collaborator_congr hc _)).trans (after_readsOf_mem _ s)

end fetch

/-- The Word that two reads give depends on the collaborator alone. -/
theorem wordFrom_congr {s t : State} (h : t.collaborator = s.collaborator) (lo hi : Word) :
    wordFrom lo hi t = wordFrom lo hi s := by
  have hlo : readOf t lo = readOf s lo := by rw [readOf, readOf, answer_collaborator_congr h]
  rw [wordFrom, wordFrom, hlo, answer_collaborator_congr h,
    answer_collaborator_congr (afterAccess_collaborator_congr h _)]

end Sys2Proof.Claims
end

section
/-! SUPPORT. What each kind of step does, from its condition; and what becomes of the request latches. -/

namespace Sys2Proof.Machine

open Sys2Proof.Claims

section

variable {s : State} (hr : s.pendReset = false)
include hr

theorem step_of_halted (hh : s.run = .halted) : step s = .next (s.setTrace []) := by
  simp [step, State.boundary, hr, hh]

theorem step_of_pendNmi (hf : s.run = .fetching) (hn : s.pendNmi = true) :
    step s = .next (s.setTrace []).serviceNmi := by
  simp [step, State.boundary, hr, hf, hn]

theorem step_of_pendIrq (hf : s.run = .fetching) (hn : s.pendNmi = false) (hq : s.pendIrq = true) (hi : s.p.i = false) :
    step s = .next (s.setTrace []).serviceIrq := by
  simp [step, State.boundary, hr, hf, hn, hq, hi]

end

/-- An opcode byte with no descriptor is read, and the error recorded (60_exceptions.md R161). -/
theorem executeInstruction_of_illegal {s : State} (h : descriptor (s.answer s.pc) = none) :
    executeInstruction s = .next (s.fetch8.2.raise .unimplementedOpcode (s.answer s.pc) s.pc) := by
  have hb : s.fetch8.1 = s.answer s.pc := rfl
  simp [executeInstruction, State.fetch, hb, h]

theorem executeInstruction_completes (s : State) : ∃ t, executeInstruction s = .next t := by
  rcases executeInstruction_cases s with ⟨i, q, u, -, e⟩ | ⟨-, e⟩
  · obtain ⟨f, -, hf⟩ := exec_runs i
    exact ⟨f u, e.trans (hf u)⟩
  · exact ⟨_, e⟩

/-! ### The request latches (10_state.md R19, 60_exceptions.md R167) -/

theorem State.service_keepsLatches (s : State) (vec : Word) (b4 : Bool) : KeepsLatches s (s.service vec b4) := by
  simp [KeepsLatches, service_eq, read16_eq]

theorem executeInstruction_keepsLatches {s t : State} (h : executeInstruction s = .next t) : KeepsLatches s t := by
  rcases executeInstruction_cases s with ⟨i, q, u, ⟨d, l, rfl⟩, e⟩ | ⟨-, e⟩ <;> rw [e] at h
  · have hl := exec_keepsLatches h
    exact hl
  · cases h
    exact ⟨rfl, rfl, rfl, rfl, rfl⟩

/-- An opcode byte 0x58 at PC is a CLI (49_flag_nop.md R148). -/
theorem decode_bytesAtPc_cli {s : State} (h : s.answer s.pc = 0x58) : ∃ rest, decode (bytesAtPc s) = .ok .cli rest := by
  rw [bytesAtPc_eq, show s.fetch8.1 = 0x58 from h]
  exact ⟨_, rfl⟩

end Sys2Proof.Machine
end

section
/-! SUPPORT. Nothing but the choice of a step reads the latch of IRQ, and that choice does not where I masks it. -/

namespace Sys2Proof.Machine

@[simp] theorem resolve_setPendIrq (m : AddrMode) (s : State) (b : Bool) :
    resolve m (s.setPendIrq b) = ((resolve m s).1, (resolve m s).2.setPendIrq b) := by
  cases m <;> rfl

@[simp] theorem readSrc_setPendIrq (o : Src) (s : State) (b : Bool) :
    readSrc o (s.setPendIrq b) = ((readSrc o s).1, (readSrc o s).2.setPendIrq b) := by
  cases o with
  | imm d8 => rfl
  | mem m =>
    simp only [readSrc, resolve_setPendIrq]
    rfl

theorem State.service_setPendIrq (s : State) (b : Bool) (vec : Word) (b4 : Bool) :
    (s.setPendIrq b).service vec b4 = (s.service vec b4).setPendIrq b := by
  rw [service_eq, service_eq]
  rfl

/-- No instruction reads or writes the latch of IRQ (10_state.md R19). -/
theorem Runs.setPendIrq {opc : Byte} {mn : Mnemonic} {o : Operand} {f : State → State} (h : Runs opc mn o f)
    (s : State) (b : Bool) : f (s.setPendIrq b) = (f s).setPendIrq b := by
  cases h with
  | lda o | ldx o | ldy o =>
    simp only [Next.load, readSrc_setPendIrq]
    rfl
  | sta m | stx m | sty m =>
    simp only [Next.store, resolve_setPendIrq]
    rfl
  | adc o | sbc o =>
    simp only [Next.add, readSrc_setPendIrq, apply_ite (State.setPendIrq · b)]
    rfl
  | and o | ora o | eor o =>
    simp only [Next.logic, readSrc_setPendIrq]
    rfl
  | bit o =>
    simp only [Next.bitTest, readSrc_setPendIrq]
    rfl
  | cmp o | cpx o | cpy o =>
    simp only [Next.compare, readSrc_setPendIrq]
    rfl
  | asl m | lsr m | rol m | ror m | inc m | dec m =>
    simp only [Next.modifyMem, resolve_setPendIrq]
    rfl
  | bcc d8 | bcs d8 | beq d8 | bne d8 | bmi d8 | bpl d8 | bvc d8 | bvs d8 =>
    simp only [Next.branch, apply_ite (State.setPendIrq · b)]
    rfl
  | jmp m =>
    simp only [Next.jump, resolve_setPendIrq]
    rfl
  | brk => exact (s.setPc (s.pc + 1)).service_setPendIrq b _ _
  | aslAcc | lsrAcc | rolAcc | rorAcc | inx | iny | dex | dey => rfl
  | jsr addr => rfl
  | rts | rti | pha | php | pla | plp => rfl
  | tax | tay | txa | tya | tsx | txs => rfl
  | sec | sed | sei | clc | cld | cli | clv | nop => rfl

/-- The same fetch with another latch of IRQ in the state. -/
def Fetched.setPendIrq (b : Bool) : Fetched → Fetched
  | .instr i s => .instr i (s.setPendIrq b)
  | .illegal opc s => .illegal opc (s.setPendIrq b)

theorem State.fetch_setPendIrq (s : State) (b : Bool) : (s.setPendIrq b).fetch = s.fetch.setPendIrq b := by
  have h8 (t : State) : (t.setPendIrq b).fetch8 = (t.fetch8.1, t.fetch8.2.setPendIrq b) := rfl
  simp only [fetch, h8]
  cases descriptor s.fetch8.1 with
  | none => rfl
  | some form => cases form <;> rfl

theorem exec_setPendIrq {i : Instr} {s t : State} (h : exec i s = .next t) (b : Bool) :
    exec i (s.setPendIrq b) = .next (t.setPendIrq b) := by
  obtain ⟨f, hf, e⟩ := exec_runs i
  obtain rfl : f s = t := by simpa [e] using h
  rw [e, hf.setPendIrq]

theorem executeInstruction_setPendIrq {s t : State} (h : executeInstruction s = .next t) (b : Bool) :
    executeInstruction (s.setPendIrq b) = .next (t.setPendIrq b) := by
  simp only [executeInstruction, State.fetch_setPendIrq] at h ⊢
  cases hf : s.fetch with
  | instr i u =>
    rw [hf] at h
    exact exec_setPendIrq h b
  | illegal opc u =>
    rw [hf] at h
    cases h
    rfl

/-- While I is 1 the latch of IRQ passes through a step unread and unwritten (60_exceptions.md R166). -/
theorem step_setPendIrq_of_masked {s t : State} (hr : s.pendReset = false) (hi : s.p.i = true)
    (ht : step s = .next t) (b : Bool) : step (s.setPendIrq b) = .next (t.setPendIrq b) := by
  rcases step_cases s with ⟨h, -⟩ | ⟨-, hh, e⟩ | ⟨-, hf, hn, e⟩ | ⟨-, -, -, -, h, -⟩ | ⟨-, hf, hn, -, e⟩
  · simp [hr] at h
  · rw [e] at ht
    cases ht
    exact step_of_halted hr hh
  · rw [e] at ht
    cases ht
    exact (step_of_pendNmi (s := s.setPendIrq b) hr hf hn).trans
      (congrArg _ (((s.setTrace []).setPendNmi false).service_setPendIrq b _ _))
  · simp [hi] at h
  · rw [step_of_ready (s := s.setPendIrq b) ⟨hr, hf, hn, .inr hi⟩]
    exact executeInstruction_setPendIrq (e.symm.trans ht) b

end Sys2Proof.Machine
end

section
/-! SUPPORT. ADC and SBC with D = 1, in the terms of Claims (41_arithmetic.md R91, 60_exceptions.md R162). -/

namespace Sys2Proof.Claims

open Sys2Proof.Machine

/-- The length is a function of the operand's mode (30_encoding.md R52). -/
theorem length_of_operand_src {i : Instr} {o : Src} (h : i.operand = .src o) : o.mode.length = i.length := by
  rw [Instr.length, Instr.mode, h]
  rfl

/-- With D = 1: the operand's accesses, then the record, and the core halts. -/
theorem Adds.exec_eq_raise {adjust : Byte → Byte} {i : Instr} {s : State} (h : Adds i.mnemonic adjust)
    (hd : s.p.d = true) :
    ∃ o, i.operand = .src o ∧
      exec i s = .next ((after s (operandReads o s)).raise .decimalModeUnsupported (opcodeOf i)
        (s.pc - BitVec.ofNat 16 i.length)) := by
  obtain ⟨f, hf, he⟩ := exec_runs i
  obtain ⟨o, ho, rfl⟩ := h hf
  exact ⟨o, ho, by rw [he, Next.add, if_pos hd, readSrc_eq_after, opcodeAddr, length_of_operand_src ho]⟩

/-- The opcode byte of what decodes at PC is the byte read there. -/
theorem opcodeOf_eq_answer_pc {s : State} {i : Instr} {rest : List Byte} (h : decode (bytesAtPc s) = .ok i rest) :
    opcodeOf i = s.answer s.pc := by
  obtain ⟨l, hl⟩ := encode_eq_cons i
  have hb := Proofs.encodeUndoesDecode _ _ _ h
  rw [bytesAtPc_eq, hl, List.cons_append, List.cons.injEq] at hb
  exact hb.1.symm

theorem exec_decimal {i : Instr} {s : State} (h : i.mnemonic = .adc ∨ i.mnemonic = .sbc) (hd : s.p.d = true) :
    ∃ o, i.operand = .src o ∧
      exec i s = .next ((after s (operandReads o s)).raise .decimalModeUnsupported (opcodeOf i)
        (s.pc - BitVec.ofNat 16 i.length)) := by
  rcases h with h | h
  · exact Adds.exec_eq_raise (adjust := id) (h ▸ adc_adds) hd
  · exact Adds.exec_eq_raise (adjust := onesComplement) (h ▸ sbc_adds) hd

end Sys2Proof.Claims
end

section
/-! SUPPORT. An interrupt service and the RTI after it (60_exceptions.md R171). -/

namespace Sys2Proof.Machine

/-- The status byte that an interrupt service pushes reloads as the flags with B clear (10_state.md R15, R16). -/
theorem Flags.fromByte_pushedByInterrupt (p : Flags) : fromByte p.pushedByInterrupt = { p with b := false } := by
  simp only [fromByte, pushedByInterrupt, BitVec.getLsbD_and, toByte_bits]
  simp

end Sys2Proof.Machine

namespace Sys2Proof.Claims

open Sys2Proof.Machine

/-- What RTI makes of the three bytes that a service pushed, and that these are what it pulls where the stack page is
RAM and they are undisturbed. -/
theorem rti_after_service (s : State) (vec : Word) {u : State} (hsp : u.sp = (s.service vec false).sp) :
    let pushed := [s.p.toByte &&& 0xEF, loByte s.pc, hiByte s.pc]
    (pulled 3 u = pushed → ∃ w, exec .rti u = .next w ∧ w.pc = s.pc ∧ w.sp = s.sp ∧ w.p = { s.p with b := false }) ∧
    (StackIsRam s → u.regions = s.regions →
      (∀ k ∈ [s.sp, s.sp - 1, s.sp - 2], u.peek (stackLoc k) = (s.service vec false).peek (stackLoc k)) →
      pulled 3 u = pushed) := by
  have h3 : u.sp = s.sp - 3 := hsp.trans (service_sp ..)
  refine ⟨fun hp => ⟨u.returnFromTrap, rfl, ?_⟩, fun h hr hu => h.pulled_service hr vec false h3 hu⟩
  obtain ⟨hpc, hsp', hflags⟩ := returnFromTrap_of_pulled hp
  rw [hpc, hsp', h3, joinBytes_hiByte_loByte]
  exact ⟨rfl, BitVec.sub_add_cancel .., hflags.trans (Flags.fromByte_pushedByInterrupt s.p)⟩

end Sys2Proof.Claims
end

section
/-! PROOFS. The obligations of 60_exceptions.md. -/

namespace Sys2Proof.Proofs

open Sys2Proof.Machine Sys2Proof.Claims

/-- Settles O14: a listed byte has no descriptor, so the step is the one read and the record. -/
theorem illegalOpcodeHaltsTheCore : Obligations.IllegalOpcodeHaltsTheCore := by
  intro s hr h
  rw [step_of_ready hr]
  exact executeInstruction_of_illegal ((descriptor_eq_none_iff _).mpr h)

/-- Settles O15: each of the five kinds of step completes, and so does every instruction. -/
theorem noStepStops : Obligations.NoStepStops := by
  refine ⟨fun s => ?_, fun i s => ?_⟩
  · rcases step_cases s with ⟨-, e⟩ | ⟨-, -, e⟩ | ⟨-, -, -, e⟩ | ⟨-, -, -, -, -, e⟩ | ⟨-, -, -, -, e⟩
    · exact ⟨_, e⟩
    · exact ⟨_, e⟩
    · exact ⟨_, e⟩
    · exact ⟨_, e⟩
    · rw [e]
      exact executeInstruction_completes _
  · obtain ⟨f, -, hf⟩ := exec_runs i
    exact ⟨f s, hf s⟩

/-- Settles O19: the trap entry from the state with the latch of NMI cleared. -/
theorem nmiEntry : Obligations.NmiEntry := by
  intro s hr hf hn
  rw [step_of_pendNmi hr hf hn]
  exact congrArg _ (service_eq_afterTrapEntry ((s.setTrace []).setPendNmi false) Config.vecNmi false)

/-- Settles O20: the trap entry from the state with the latch of IRQ cleared. -/
theorem irqEntry : Obligations.IrqEntry := by
  intro s hr hf hn hq hi
  rw [step_of_pendIrq hr hf hn hq hi]
  exact congrArg _ (service_eq_afterTrapEntry ((s.setTrace []).setPendIrq false) Config.vecIrq false)

/-- Settles O21: with I = 1 nothing in a step reads the latch of IRQ. -/
theorem maskedIrqWaits : Obligations.MaskedIrqWaits :=
  fun s _ hr hi ht => step_setPendIrq_of_masked (s := s.setPendIrq false) hr hi ht true

/-- Settles O22: a service clears its own latch, and the accesses and instructions keep all three. -/
theorem latchesAfterAStep : Obligations.LatchesAfterAStep := by
  refine ⟨fun s t hr ht => ?_, fun i s t h => ?_⟩
  · rcases step_cases s with ⟨h, -⟩ | ⟨-, hh, e⟩ | ⟨-, hf, hn, e⟩ | ⟨-, hf, hn, hq, hi, e⟩ | ⟨-, hf, hn, hq, e⟩
    · simp [hr] at h
    · rw [e] at ht
      cases ht
      simp [hr, hh]
    · rw [e] at ht
      cases ht
      obtain ⟨h1, h2, h3, -⟩ := ((s.setTrace []).setPendNmi false).service_keepsLatches Config.vecNmi false
      exact ⟨h1.trans hr, h2.trans (by simp [hf]), h3.trans (by simp [hn])⟩
    · rw [e] at ht
      cases ht
      obtain ⟨h1, h2, h3, -⟩ := ((s.setTrace []).setPendIrq false).service_keepsLatches Config.vecIrq false
      exact ⟨h1.trans hr, h2.trans (by simp [hn]), h3.trans (by simp [hf, hn, hi])⟩
    · obtain ⟨h1, h2, h3, -⟩ := executeInstruction_keepsLatches (e.symm.trans ht)
      refine ⟨h1.trans hr, h2.trans (by simp [hn]), h3.trans ?_⟩
      rcases hq with hq | hi
      · simp [hq]
      · simp [hi]
  · obtain ⟨h1, h2, h3, -⟩ := exec_keepsLatches h
    exact ⟨h1, h2, h3⟩

/-- Settles O23. -/
theorem haltedCoreIdles : Obligations.HaltedCoreIdles :=
  ⟨fun _ hr hh => step_of_halted hr hh, fun _ => ⟨rfl, rfl, rfl⟩⟩

/-- Settles O24: I masks the IRQ at the CLI and not after it. -/
theorem cliTakesEffectAtTheNextBoundary : Obligations.CliTakesEffectAtTheNextBoundary := by
  intro s hr hf hn hq hi hop
  obtain ⟨rest, hd⟩ := decode_bytesAtPc_cli hop
  have hs : step s = .next ((afterFetch s .cli).setP { s.p with i := false }) :=
    stepRunsTheDecodedInstruction s .cli rest ⟨hr, hf, hn, .inr hi⟩ hd
  exact ⟨_, hs, rfl, rfl, rfl, irqEntry _ hr hf hn hq rfl⟩

/-- Settles O25: the state after the IRQ service is fetching and, after the request, has NMI pending. -/
theorem nmiNestsOnAnIrqEntry : Obligations.NmiNestsOnAnIrqEntry := by
  intro s hr hf hn hq hi
  obtain ⟨t, ht, hr', hf', hn', hp, hsp⟩ : ∃ t, step s = .next t ∧ t.pendReset = false ∧ t.run = .fetching ∧
      t.pendNmi = false ∧ t.p = { s.p with i := true } ∧ t.sp = s.sp - 3 :=
    ⟨_, irqEntry s hr hf hn hq hi, by simp [afterTrapEntry, hr, hf, hn]⟩
  refine ⟨t, _, ht, nmiEntry (t.request .nmi) hr' hf' rfl, ?_, ?_⟩
  · change t.sp - 3 = s.sp - 6
    rw [hsp, BitVec.sub_sub]
    rfl
  · rw [← hp]
    exact congrArg (fun b => afterTrapEntry { t with pendNmi := b, trace := [] } t.pc (t.p.toByte &&& 0xEF) 0xFFFA)
      hn'.symm

/-- Settles O33: the rows of ADC and SBC add, which with D = 1 is the record after the operand's accesses; no other row
writes the run state or the record; and neither the fetch nor those accesses write a register. -/
theorem decimalModeHaltsAdcAndSbc : Obligations.DecimalModeHaltsAdcAndSbc := by
  refine ⟨fun i s hm hd => exec_decimal hm hd, fun i s t h ht => ?_, fun s i rest hr hdec hm hd => ?_⟩
  · obtain ⟨-, hkeep⟩ := exec_raisesOnlyDecimal ht
    refine hkeep ?_
    rintro ⟨hm, hd⟩
    rcases h with ⟨ha, hs⟩ | h0
    · exact hm.elim ha hs
    · simp [h0] at hd
  · obtain ⟨o, -, he⟩ := exec_decimal (s := afterFetch s i) hm (by simpa using hd)
    refine ⟨_, (stepRunsTheDecodedInstruction s i rest hr hdec).trans he, ?_⟩
    simp [State.raise_eq, opcodeOf_eq_answer_pc hdec]

/-- Settles O49: what holds of any service holds of the two, which start with a latch cleared. -/
theorem rtiAfterAnInterrupt : Obligations.RtiAfterAnInterrupt := by
  rintro s _ (rfl | rfl) pushed u hsp
  · exact rti_after_service (s.setPendNmi false) Config.vecNmi hsp
  · exact rti_after_service (s.setPendIrq false) Config.vecIrq hsp

end Sys2Proof.Proofs
end

section
/-! SUPPORT. The second byte of an indirect jump's pointer, by the place of the first in its page. -/

namespace Sys2Proof.Claims

theorem nextInPage_of_ne {ptr : Word} (h : loByte ptr ≠ 0xFF) : nextInPage ptr = ptr + 1 := by
  have hptr := ptr.isLt
  have hlo : ptr.toNat % 256 ≠ 255 := by
    rw [← loByte_toNat]
    exact fun e => h (BitVec.eq_of_toNat_eq e)
  rw [nextInPage]
  bv_omega

theorem nextInPage_of_eq {ptr : Word} (h : loByte ptr = 0xFF) : nextInPage ptr = ptr - 0xFF := by
  have hptr := ptr.isLt
  have hlo : ptr.toNat % 256 = 255 := by
    rw [← loByte_toNat, h]
    rfl
  rw [nextInPage]
  bv_omega

end Sys2Proof.Claims
end

section
/-! SUPPORT. The reset sequence in the terms of Claims. -/

namespace Sys2Proof.Machine

/-- A reset sequence before its two reads: registers, latches and record are written (70_reset_and_hazards.md R180). -/
def State.resetRegisters (s : State) : State :=
  { s with
    a := Config.resetA s.resetDraws, x := Config.resetX s.resetDraws, y := Config.resetY s.resetDraws
    sp := Config.resetSp s.resetDraws, p := resetFlags s.resetDraws, run := .fetching, pendReset := false
    pendNmi := false, pendIrq := false, fault := none, resetDraws := s.resetDraws + 1 }

end Sys2Proof.Machine

namespace Sys2Proof.Claims

open Sys2Proof.Machine

theorem resetSequence_eq_after (s : State) :
    s.resetSequence =
      { after s.resetRegisters (readsOf [0xFFFC, 0xFFFD] s) with pc := wordFrom 0xFFFC 0xFFFD s } := by
  have hc : s.resetRegisters.collaborator = s.collaborator := rfl
  have h16 : s.resetRegisters.read16 Config.vecReset = _ := two_reads_eq s.resetRegisters 0xFFFC 0xFFFD
  rw [readsOf_congr hc, wordFrom_congr hc] at h16
  calc s.resetSequence
      = (s.resetRegisters.read16 Config.vecReset).2.setPc (s.resetRegisters.read16 Config.vecReset).1 :=
        State.resetSequence_eq s
    _ = _ := by rw [h16]; rfl

end Sys2Proof.Claims
end

section
/-! PROOFS. The obligations of 70_reset_and_hazards.md. -/

namespace Sys2Proof.Proofs

open Sys2Proof.Machine Sys2Proof.Claims

/-- Settles O16: the sequence writes the registers and then reads the vector's two bytes. -/
theorem resetStep : Obligations.ResetStep := by
  intro s h
  have h0 : (s.setTrace []).collaborator = s.collaborator := rfl
  have hc : (s.setTrace []).resetRegisters.collaborator = s.collaborator := rfl
  have he := step_of_pendReset h
  rw [resetSequence_eq_after, readsOf_congr h0, wordFrom_congr h0] at he
  have hm := congrArg Prod.fst (after_collaborator_congr hc (readsOf [0xFFFC, 0xFFFD] s))
  have hd := congrArg (fun c => c.2.2) (after_collaborator_congr hc (readsOf [0xFFFC, 0xFFFD] s))
  exact ⟨_, he, after_pendReset _ _, after_pendNmi _ _, after_pendIrq _ _, after_fault _ _, after_run _ _,
    congrArg Flags.i (after_p _ _), rfl, hm.trans (after_readsOf_mem _ s), after_regions _ _, hd, after_trace _ _⟩

/-- Settles O42: the target's bytes are those of the pointer, the second in the page of the first. -/
theorem indirectJumpWrapsInItsPage : Obligations.IndirectJumpWrapsInItsPage := by
  intro ptr s
  have hpc : effectiveAddress (.ind ptr) s =
      joinBytes ((afterAccess s (readOf s ptr)).answer (nextInPage ptr)) (s.answer ptr) := (joinBytes_eq_word ..).symm
  obtain ⟨-, -, -, he⟩ := jumpsGoToTheAddress ptr s
  refine ⟨_, he, ?_, fun h => ?_, fun h => ?_, rfl, rfl, rfl⟩
  · simp only [hpc, loByte_joinBytes]
  · simp only [hpc, hiByte_joinBytes, nextInPage_of_ne h]
    rfl
  · simp only [hpc, hiByte_joinBytes, nextInPage_of_eq h]
    rfl

end Sys2Proof.Proofs
end
